-- ==== Sys2Proof/Word.lean ====
section
/-! DEFINITION. The word types of the M6805 HMOS / M146805 CMOS Family CPU (spec/00_scope.md R7, R9). -/

namespace Sys2Proof

/-- One byte: the width of A, X, of every memory location and of every access (R20, R60, R62). -/
abbrev Byte := BitVec 8

/-- Sixteen bits: the widest address an instruction can carry (R66).
The program counter and the stack pointer are kept in this width with the bits above `ADDR_BITS` zero. -/
abbrev Addr := BitVec 16

end Sys2Proof
end

