-- ==== Sys2Proof/Config.lean ====
section
/-! DEFINITION. What the family member fixes (spec/00_scope.md R6) and the free values of the model. -/

namespace Sys2Proof

/-- The parameter `FAMILY` of R6. -/
inductive Family where
  | hmos
  | cmos
  deriving DecidableEq, Repr

/-- What a stretch of the address map holds (parameter `MemMap` of R6; R60, R67, decision D5). -/
inductive RegionKind where
  /-- reads the last byte written -/
  | ram
  /-- reads its fixed content, a write is ignored (decision D5) -/
  | rom
  /-- an I/O register: a read is an input of the environment, a write reaches the register (R67) -/
  | io
  /-- a write-only register: a write reaches it, a read gives $FF (R67, R351) -/
  | writeOnly
  /-- nothing is there: a write is lost, a read gives a byte nothing fixes (R67, U6) -/
  | absent
  deriving DecidableEq, Repr

/-- One stretch of the address map: `size` addresses from `base` up. -/
structure Region where
  base : Nat
  size : Nat
  kind : RegionKind
  deriving DecidableEq, Repr

/-- One family member: the parameters of R6 that functional rules read.
An address in no region of `memMap` is RAM (decision D5); the first region that holds an address decides. -/
structure Config where
  family : Family
  /-- `ADDR_BITS` -/
  addrBits : Nat
  /-- `SP_BITS` -/
  spBits : Nat
  /-- `VEC_RESET`, the address of the high byte -/
  vecReset : Addr
  /-- `VEC_IRQ` -/
  vecIrq : Addr
  /-- `VEC_TIMER` -/
  vecTimer : Addr
  memMap : List Region
  deriving DecidableEq, Repr

/-- The ranges R6 allows: 11 to 13 address bits are stated and up to 16 are encodable; 1 to 7 counting SP bits. -/
abbrev Config.wf (c : Config) : Prop :=
  11 ≤ c.addrBits ∧ c.addrBits ≤ 16 ∧ 1 ≤ c.spBits ∧ c.spBits ≤ 7

/-- The member the reset state is given for: the one of the spec's test vectors, (CMOS, 13, 6) with the default vectors of
R308 and the default map of decision D5.
DESIGN CHOICE, unsafe (log entry 1): decision D21 leaves the member open, and statements hold for every member. -/
def Config.reference : Config where
  family := .cmos
  addrBits := 13
  spBits := 6
  vecReset := 0x1FFE
  vecIrq := 0x1FFA
  vecTimer := 0x1FF8
  memMap := []

/-- The byte the environment gives to the `draw`-th read of an I/O location or of an absent address (R11, R67, U6, U7).
A free value: it has no body, so nothing can be proved of it (log entry 4). -/
opaque Config.inputByte (address draw : Nat) : Byte

/-- What the member's timer prescaler holds after a reset step (R341: the state of timer registers is the member's).
A free value (log entry 9). -/
opaque Config.prescalerAfterReset (draw : Nat) : Nat

/-- What the member's timer counter holds after a reset step. A free value (log entry 9). -/
opaque Config.counterAfterReset (draw : Nat) : Nat

/-- `CYCLES_INT_ENTRY` of R6, not in the sources (decision D24). A free value (log entry 14). -/
opaque Config.cyclesIntEntry (c : Config) : Nat

/-- `CYCLES_RESET` of R6, not in the sources (decision D24). A free value (log entry 14). -/
opaque Config.cyclesReset (c : Config) : Nat

/-- The interrupt latency of R362, which is not in the sources: the cycles that pass before an entry that a boundary has
chosen begins. A free value (log entry 14). -/
opaque Config.interruptLatency (c : Config) : Nat

/-- The cycles STOP's restart spends beyond its stated delay of 1920 (R362), which no source gives.
A free value (log entry 14). -/
opaque Config.cyclesRestartBeyond (c : Config) : Nat

end Sys2Proof
end

