-- ==== Sys2Proof/Machine/State.lean ====
section
/-! DEFINITION. The state of the machine as plain data, its updates, the ways a step can stop, and the state after reset
(spec/10_state.md R20 to R55, spec/60_exceptions.md R303 to R305, R320). -/

namespace Sys2Proof.Machine

/-- The condition code register: five flags (R40). Its three top bits are constant ones and are no state. -/
structure CC where
  /-- half carry, bit 4 (R45) -/
  h : Bool
  /-- interrupt mask, bit 3 (R46) -/
  i : Bool
  /-- negative, bit 2 (R44) -/
  n : Bool
  /-- zero, bit 1 (R43) -/
  z : Bool
  /-- carry/borrow, bit 0 (R42) -/
  c : Bool
  deriving DecidableEq, Repr

/-- `run_state` (R52). -/
inductive RunState where
  | running
  /-- after STOP (R279) -/
  | stopped
  /-- after WAIT (R283) -/
  | waiting
  deriving DecidableEq, Repr

/-- The parts of the on-chip timer the spec names (R52, R320). Their widths and addresses are the member's (N13), so the
prescaler and the counter are plain numbers. -/
structure Timer where
  prescaler : Nat
  counter : Nat
  /-- the timer interrupt flag bit -/
  flag : Bool
  /-- the timer interrupt enable -/
  enable : Bool
  deriving DecidableEq, Repr

/-- What the outside world does at one instruction boundary (R11, U13): the inputs of one step. -/
structure Input where
  /-- the RESET pin is asserted (R340) -/
  reset : Bool
  /-- the level of the external interrupt pin, 1 = high (R303) -/
  intPin : Bool
  /-- the pin went low and came back since the last boundary (R303: each high-to-low transition latches) -/
  pulse : Bool
  /-- what the timer device holds now, if it moved since the last boundary (R304, R320) -/
  timer : Option Timer
  deriving DecidableEq, Repr

/-- The two maskable interrupt sources (R300). -/
inductive Source where
  | ext
  | timer
  deriving DecidableEq, Repr

/-- What happens at an instruction boundary (R305). -/
inductive Event where
  | reset
  | interrupt (src : Source)
  | instruction
  | idle
  deriving DecidableEq, Repr

/-- Memory as its listed bytes, in one canonical form (see `Memory.wf`). -/
abbrev Memory := List Host.Cell

/-- Why a step stops with a fault. -/
inductive Fault where
  /-- Raised by the step when the opcode byte at the PC has no instruction on this member, and by STOP and WAIT on an HMOS
  member (R99, U1, U2, decisions D16, D23). Safe: the spec gives such a byte no meaning and no next state. -/
  | undefinedOpcode (op : Byte)
  deriving DecidableEq, Repr

/-- Why a step is refused. -/
inductive Refusal where
  /-- Raised only by an arm of `exec` whose instruction has no meaning yet; no arm is in that case. Safe. -/
  | notModelled (mnemonic : String)
  deriving DecidableEq, Repr

/-- The whole state: the five registers of R20, the hidden state of R52, memory, the member's parameters (which no step
changes), the inputs still to come, and two counters of the model's own. -/
structure State where
  /-- the member's parameters (R6) -/
  cfg : Config
  /-- accumulator A (R21) -/
  a : Byte
  /-- index register X (R22) -/
  x : Byte
  /-- program counter, `ADDR_BITS` wide (R25) -/
  pc : Addr
  /-- stack pointer, `ADDR_BITS` wide (R30) -/
  sp : Addr
  /-- condition codes (R40) -/
  cc : CC
  /-- the latched external interrupt request (R52, R303) -/
  pendExt : Bool
  /-- running, stopped or waiting (R52) -/
  runState : RunState
  /-- `INT_PIN`, the level last sampled from the input (R52, R238); `true` is high -/
  intPin : Bool
  /-- the timer device (R52, R320) -/
  timer : Timer
  /-- the one address space (R60) -/
  mem : Memory
  /-- the model's own: the inputs of the steps to come, first step first; when none is left the levels stay (R11) -/
  inputs : List Input
  /-- the model's own: how many free values have been drawn -/
  draws : Nat
  /-- the model's own: instruction cycles so far (R360) -/
  cycles : Nat
  deriving DecidableEq, Repr

/-- The state with a new `a`. -/
def State.setA (s : State) (v : Byte) : State := { s with a := v }

/-- The state with a new `x`. -/
def State.setX (s : State) (v : Byte) : State := { s with x := v }

/-- The state with a new `pc`. -/
def State.setPc (s : State) (v : Addr) : State := { s with pc := v }

/-- The state with a new `sp`. -/
def State.setSp (s : State) (v : Addr) : State := { s with sp := v }

/-- The state with a new `cc`. -/
def State.setCc (s : State) (v : CC) : State := { s with cc := v }

/-- The state with a new `pendExt`. -/
def State.setPendExt (s : State) (v : Bool) : State := { s with pendExt := v }

/-- The state with a new `runState`. -/
def State.setRunState (s : State) (v : RunState) : State := { s with runState := v }

/-- The state with a new `intPin`. -/
def State.setIntPin (s : State) (v : Bool) : State := { s with intPin := v }

/-- The state with a new `timer`. -/
def State.setTimer (s : State) (v : Timer) : State := { s with timer := v }

/-- The state with a new `mem`. -/
def State.setMem (s : State) (v : Memory) : State := { s with mem := v }

/-- The state with a new `inputs`. -/
def State.setInputs (s : State) (v : List Input) : State := { s with inputs := v }

/-- The state with a new `draws`. -/
def State.setDraws (s : State) (v : Nat) : State := { s with draws := v }

/-- The state with a new `cycles`. -/
def State.setCycles (s : State) (v : Nat) : State := { s with cycles := v }

/-- The machine right after reset (R55): SP = $7F, I = 1, no request pending, running; the PC is what the reset vector of a
memory with nothing listed reads as. A, X, H, N, Z, C, the pin level, the timer counts and the member are the model's choice
(log entries 1, 2, 3, 9 and 10: DESIGN CHOICE, unsafe). -/
def State.reset : State where
  cfg := Config.reference
  a := 0
  x := 0
  pc := 0
  sp := 0x7F
  cc := { h := false, i := true, n := false, z := false, c := false }
  pendExt := false
  runState := .running
  intPin := true
  timer := { prescaler := 0, counter := 0, flag := false, enable := false }
  mem := []
  inputs := []
  draws := 0
  cycles := 0

end Sys2Proof.Machine
end

