-- ==== Sys2Proof/Machine/Flags.lean ====
section
/-! DEFINITION. Every result and flag computation of the spec, on bytes and condition codes alone
(spec/41_register_memory.md R170 to R186, spec/42_read_modify_write.md R203 to R214). -/

namespace Sys2Proof.Machine

/-- `SetNZ(r)` (R170): N is bit 7, Z says that all bits are clear. -/
def setNZ (cc : CC) (r : Byte) : CC := { cc with n := r.msb, z := r == 0 }

/-! ### Two operands: the register, the operand, the flags before; the result and the flags after -/

/-- ADC (R171). -/
def adcOp (acc m : Byte) (cc : CC) : Byte × CC :=
  let sum := acc.toNat + m.toNat + cc.c.toNat
  let r := BitVec.ofNat 8 sum
  (r, setNZ { cc with h := decide (acc.toNat % 16 + m.toNat % 16 + cc.c.toNat > 15), c := decide (sum > 255) } r)

/-- ADD (R172): the incoming carry is not used. -/
def addOp (acc m : Byte) (cc : CC) : Byte × CC :=
  let sum := acc.toNat + m.toNat
  let r := BitVec.ofNat 8 sum
  (r, setNZ { cc with h := decide (acc.toNat % 16 + m.toNat % 16 > 15), c := decide (sum > 255) } r)

/-- SUB (R186), and the difference and flags of CMP and CPX (R175, R176). -/
def subOp (acc m : Byte) (cc : CC) : Byte × CC :=
  let r := acc - m
  (r, setNZ { cc with c := decide (m.toNat > acc.toNat) } r)

/-- SBC (R183). -/
def sbcOp (acc m : Byte) (cc : CC) : Byte × CC :=
  let t := m.toNat + cc.c.toNat
  let r := acc - BitVec.ofNat 8 t
  (r, setNZ { cc with c := decide (t > acc.toNat) } r)

/-- AND (R173), and the flags of BIT (R174). -/
def andOp (acc m : Byte) (cc : CC) : Byte × CC := (acc &&& m, setNZ cc (acc &&& m))

/-- EOR (R177). -/
def eorOp (acc m : Byte) (cc : CC) : Byte × CC := (acc ^^^ m, setNZ cc (acc ^^^ m))

/-- ORA (R182). -/
def oraOp (acc m : Byte) (cc : CC) : Byte × CC := (acc ||| m, setNZ cc (acc ||| m))

/-- LDA and LDX (R180, R181): the operand, whatever the register held. -/
def loadOp (_acc m : Byte) (cc : CC) : Byte × CC := (m, setNZ cc m)

/-! ### One operand: the byte and the flags before; the byte and the flags after -/

/-- NEG (R210). -/
def negOp (v : Byte) (cc : CC) : Byte × CC :=
  let r := 0 - v
  (r, setNZ { cc with c := r != 0 } r)

/-- COM (R205). -/
def comOp (v : Byte) (cc : CC) : Byte × CC :=
  let r := v ^^^ 0xFF
  (r, setNZ { cc with c := true } r)

/-- LSR (R209): N is cleared. -/
def lsrOp (v : Byte) (cc : CC) : Byte × CC :=
  let r := v >>> 1
  (r, { cc with n := false, z := r == 0, c := v.getLsbD 0 })

/-- ROR (R212): bit 7 from the carry. -/
def rorOp (v : Byte) (cc : CC) : Byte × CC :=
  let r : Byte := (if cc.c then (0x80 : Byte) else 0) ||| (v >>> 1)
  (r, setNZ { cc with c := v.getLsbD 0 } r)

/-- ASR (R203): bit 7 is held. -/
def asrOp (v : Byte) (cc : CC) : Byte × CC :=
  let r : Byte := (v &&& (0x80 : Byte)) ||| (v >>> 1)
  (r, setNZ { cc with c := v.getLsbD 0 } r)

/-- LSL, also ASL (R208, R202). -/
def lslOp (v : Byte) (cc : CC) : Byte × CC :=
  let r := v <<< 1
  (r, setNZ { cc with c := v.msb } r)

/-- ROL (R211): bit 0 from the carry. -/
def rolOp (v : Byte) (cc : CC) : Byte × CC :=
  let r : Byte := (v <<< 1) ||| (if cc.c then (1 : Byte) else 0)
  (r, setNZ { cc with c := v.msb } r)

/-- DEC (R206). -/
def decOp (v : Byte) (cc : CC) : Byte × CC := (v - 1, setNZ cc (v - 1))

/-- INC (R207). -/
def incOp (v : Byte) (cc : CC) : Byte × CC := (v + 1, setNZ cc (v + 1))

/-- CLR (R204): the byte read plays no part. -/
def clrOp (_v : Byte) (cc : CC) : Byte × CC := (0, { cc with n := false, z := true })

/-! ### Branch conditions (R250) -/

/-- BHI: C = 0 and Z = 0 (R236). -/
def higher (cc : CC) : Bool := !cc.c && !cc.z

end Sys2Proof.Machine
end

