-- ==== Sys2Proof/Syntax.lean ====
section
/-! DEFINITION. The instructions, one constructor per row of spec/opcode_table.json (spec/30_encoding.md R97, R104).

Operand names: `n` bit number, `v` immediate byte, `d` direct address byte, `a` extended address, `o` index offset,
`r` relative offset (R92, R93). The seven rows that are a second name of another row's opcode (BHS, BLO and the five forms
of ASL, R102) have constructors of their own; the decoder answers the primary name. -/

namespace Sys2Proof

/-- An instruction of the family: a row of the opcode table with its operands. -/
inductive Instr where
  /-- `BRSET` bit test and branch, $00 + 2n (R263). -/
  | brset (n : BitVec 3) (d : Byte) (r : Byte)
  /-- `BRCLR` bit test and branch, $01 + 2n (R262). -/
  | brclr (n : BitVec 3) (d : Byte) (r : Byte)
  /-- `BSET` bit set/clear, $10 + 2n (R264). -/
  | bset (n : BitVec 3) (d : Byte)
  /-- `BCLR` bit set/clear, $11 + 2n (R261). -/
  | bclr (n : BitVec 3) (d : Byte)
  /-- `BRA` relative, $20 (R247). -/
  | bra (r : Byte)
  /-- `BRN` relative, $21 (R248). -/
  | brn (r : Byte)
  /-- `BHI` relative, $22 (R236). -/
  | bhi (r : Byte)
  /-- `BLS` relative, $23 (R241). -/
  | bls (r : Byte)
  /-- `BCC` relative, $24 (R231). -/
  | bcc (r : Byte)
  /-- `BCS` relative, $25 (R232). -/
  | bcs (r : Byte)
  /-- `BNE` relative, $26 (R245). -/
  | bne (r : Byte)
  /-- `BEQ` relative, $27 (R233). -/
  | beq (r : Byte)
  /-- `BHCC` relative, $28 (R234). -/
  | bhcc (r : Byte)
  /-- `BHCS` relative, $29 (R235). -/
  | bhcs (r : Byte)
  /-- `BPL` relative, $2A (R246). -/
  | bpl (r : Byte)
  /-- `BMI` relative, $2B (R243). -/
  | bmi (r : Byte)
  /-- `BMC` relative, $2C (R242). -/
  | bmc (r : Byte)
  /-- `BMS` relative, $2D (R244). -/
  | bms (r : Byte)
  /-- `BIL` relative, $2E (R239). -/
  | bil (r : Byte)
  /-- `BIH` relative, $2F (R238). -/
  | bih (r : Byte)
  /-- `BHS` relative, $24, another name of `BCC` (R102) (R231). -/
  | bhs (r : Byte)
  /-- `BLO` relative, $25, another name of `BCS` (R102) (R232). -/
  | blo (r : Byte)
  /-- `BSR` relative, $AD (R249). -/
  | bsr (r : Byte)
  /-- `NEG` direct, $30 (R210). -/
  | negDir (d : Byte)
  /-- `NEGA` inherent, $40 (R210). -/
  | nega
  /-- `NEGX` inherent, $50 (R210). -/
  | negx
  /-- `NEG` indexed, 8-bit offset, $60 (R210). -/
  | negIx1 (o : Byte)
  /-- `NEG` indexed, no offset, $70 (R210). -/
  | negIx
  /-- `COM` direct, $33 (R205). -/
  | comDir (d : Byte)
  /-- `COMA` inherent, $43 (R205). -/
  | coma
  /-- `COMX` inherent, $53 (R205). -/
  | comx
  /-- `COM` indexed, 8-bit offset, $63 (R205). -/
  | comIx1 (o : Byte)
  /-- `COM` indexed, no offset, $73 (R205). -/
  | comIx
  /-- `LSR` direct, $34 (R209). -/
  | lsrDir (d : Byte)
  /-- `LSRA` inherent, $44 (R209). -/
  | lsra
  /-- `LSRX` inherent, $54 (R209). -/
  | lsrx
  /-- `LSR` indexed, 8-bit offset, $64 (R209). -/
  | lsrIx1 (o : Byte)
  /-- `LSR` indexed, no offset, $74 (R209). -/
  | lsrIx
  /-- `ROR` direct, $36 (R212). -/
  | rorDir (d : Byte)
  /-- `RORA` inherent, $46 (R212). -/
  | rora
  /-- `RORX` inherent, $56 (R212). -/
  | rorx
  /-- `ROR` indexed, 8-bit offset, $66 (R212). -/
  | rorIx1 (o : Byte)
  /-- `ROR` indexed, no offset, $76 (R212). -/
  | rorIx
  /-- `ASR` direct, $37 (R203). -/
  | asrDir (d : Byte)
  /-- `ASRA` inherent, $47 (R203). -/
  | asra
  /-- `ASRX` inherent, $57 (R203). -/
  | asrx
  /-- `ASR` indexed, 8-bit offset, $67 (R203). -/
  | asrIx1 (o : Byte)
  /-- `ASR` indexed, no offset, $77 (R203). -/
  | asrIx
  /-- `LSL` direct, $38 (R208). -/
  | lslDir (d : Byte)
  /-- `ASL` direct, $38, another name of `LSL` (R102) (R208). -/
  | aslDir (d : Byte)
  /-- `LSLA` inherent, $48 (R208). -/
  | lsla
  /-- `ASLA` inherent, $48, another name of `LSLA` (R102) (R208). -/
  | asla
  /-- `LSLX` inherent, $58 (R208). -/
  | lslx
  /-- `ASLX` inherent, $58, another name of `LSLX` (R102) (R208). -/
  | aslx
  /-- `LSL` indexed, 8-bit offset, $68 (R208). -/
  | lslIx1 (o : Byte)
  /-- `ASL` indexed, 8-bit offset, $68, another name of `LSL` (R102) (R208). -/
  | aslIx1 (o : Byte)
  /-- `LSL` indexed, no offset, $78 (R208). -/
  | lslIx
  /-- `ASL` indexed, no offset, $78, another name of `LSL` (R102) (R208). -/
  | aslIx
  /-- `ROL` direct, $39 (R211). -/
  | rolDir (d : Byte)
  /-- `ROLA` inherent, $49 (R211). -/
  | rola
  /-- `ROLX` inherent, $59 (R211). -/
  | rolx
  /-- `ROL` indexed, 8-bit offset, $69 (R211). -/
  | rolIx1 (o : Byte)
  /-- `ROL` indexed, no offset, $79 (R211). -/
  | rolIx
  /-- `DEC` direct, $3A (R206). -/
  | decDir (d : Byte)
  /-- `DECA` inherent, $4A (R206). -/
  | deca
  /-- `DECX` inherent, $5A (R206). -/
  | decx
  /-- `DEC` indexed, 8-bit offset, $6A (R206). -/
  | decIx1 (o : Byte)
  /-- `DEC` indexed, no offset, $7A (R206). -/
  | decIx
  /-- `INC` direct, $3C (R207). -/
  | incDir (d : Byte)
  /-- `INCA` inherent, $4C (R207). -/
  | inca
  /-- `INCX` inherent, $5C (R207). -/
  | incx
  /-- `INC` indexed, 8-bit offset, $6C (R207). -/
  | incIx1 (o : Byte)
  /-- `INC` indexed, no offset, $7C (R207). -/
  | incIx
  /-- `TST` direct, $3D (R213). -/
  | tstDir (d : Byte)
  /-- `TSTA` inherent, $4D (R213). -/
  | tsta
  /-- `TSTX` inherent, $5D (R213). -/
  | tstx
  /-- `TST` indexed, 8-bit offset, $6D (R213). -/
  | tstIx1 (o : Byte)
  /-- `TST` indexed, no offset, $7D (R213). -/
  | tstIx
  /-- `CLR` direct, $3F (R204). -/
  | clrDir (d : Byte)
  /-- `CLRA` inherent, $4F (R204). -/
  | clra
  /-- `CLRX` inherent, $5F (R204). -/
  | clrx
  /-- `CLR` indexed, 8-bit offset, $6F (R204). -/
  | clrIx1 (o : Byte)
  /-- `CLR` indexed, no offset, $7F (R204). -/
  | clrIx
  /-- `RTI` inherent, $80 (R275). -/
  | rti
  /-- `RTS` inherent, $81 (R276). -/
  | rts
  /-- `SWI` inherent, $83 (R280). -/
  | swi
  /-- `STOP` inherent, $8E (R279). -/
  | stop
  /-- `WAIT` inherent, $8F (R283). -/
  | wait
  /-- `TAX` inherent, $97 (R281). -/
  | tax
  /-- `CLC` inherent, $98 (R271). -/
  | clc
  /-- `SEC` inherent, $99 (R277). -/
  | sec
  /-- `CLI` inherent, $9A (R272). -/
  | cli
  /-- `SEI` inherent, $9B (R278). -/
  | sei
  /-- `RSP` inherent, $9C (R274). -/
  | rsp
  /-- `NOP` inherent, $9D (R273). -/
  | nop
  /-- `TXA` inherent, $9F (R282). -/
  | txa
  /-- `SUB` immediate, $A0 (R186). -/
  | subImm (v : Byte)
  /-- `SUB` direct, $B0 (R186). -/
  | subDir (d : Byte)
  /-- `SUB` extended, $C0 (R186). -/
  | subExt (a : Addr)
  /-- `SUB` indexed, 16-bit offset, $D0 (R186). -/
  | subIx2 (o : Addr)
  /-- `SUB` indexed, 8-bit offset, $E0 (R186). -/
  | subIx1 (o : Byte)
  /-- `SUB` indexed, no offset, $F0 (R186). -/
  | subIx
  /-- `CMP` immediate, $A1 (R175). -/
  | cmpImm (v : Byte)
  /-- `CMP` direct, $B1 (R175). -/
  | cmpDir (d : Byte)
  /-- `CMP` extended, $C1 (R175). -/
  | cmpExt (a : Addr)
  /-- `CMP` indexed, 16-bit offset, $D1 (R175). -/
  | cmpIx2 (o : Addr)
  /-- `CMP` indexed, 8-bit offset, $E1 (R175). -/
  | cmpIx1 (o : Byte)
  /-- `CMP` indexed, no offset, $F1 (R175). -/
  | cmpIx
  /-- `SBC` immediate, $A2 (R183). -/
  | sbcImm (v : Byte)
  /-- `SBC` direct, $B2 (R183). -/
  | sbcDir (d : Byte)
  /-- `SBC` extended, $C2 (R183). -/
  | sbcExt (a : Addr)
  /-- `SBC` indexed, 16-bit offset, $D2 (R183). -/
  | sbcIx2 (o : Addr)
  /-- `SBC` indexed, 8-bit offset, $E2 (R183). -/
  | sbcIx1 (o : Byte)
  /-- `SBC` indexed, no offset, $F2 (R183). -/
  | sbcIx
  /-- `CPX` immediate, $A3 (R176). -/
  | cpxImm (v : Byte)
  /-- `CPX` direct, $B3 (R176). -/
  | cpxDir (d : Byte)
  /-- `CPX` extended, $C3 (R176). -/
  | cpxExt (a : Addr)
  /-- `CPX` indexed, 16-bit offset, $D3 (R176). -/
  | cpxIx2 (o : Addr)
  /-- `CPX` indexed, 8-bit offset, $E3 (R176). -/
  | cpxIx1 (o : Byte)
  /-- `CPX` indexed, no offset, $F3 (R176). -/
  | cpxIx
  /-- `AND` immediate, $A4 (R173). -/
  | andImm (v : Byte)
  /-- `AND` direct, $B4 (R173). -/
  | andDir (d : Byte)
  /-- `AND` extended, $C4 (R173). -/
  | andExt (a : Addr)
  /-- `AND` indexed, 16-bit offset, $D4 (R173). -/
  | andIx2 (o : Addr)
  /-- `AND` indexed, 8-bit offset, $E4 (R173). -/
  | andIx1 (o : Byte)
  /-- `AND` indexed, no offset, $F4 (R173). -/
  | andIx
  /-- `BIT` immediate, $A5 (R174). -/
  | bitImm (v : Byte)
  /-- `BIT` direct, $B5 (R174). -/
  | bitDir (d : Byte)
  /-- `BIT` extended, $C5 (R174). -/
  | bitExt (a : Addr)
  /-- `BIT` indexed, 16-bit offset, $D5 (R174). -/
  | bitIx2 (o : Addr)
  /-- `BIT` indexed, 8-bit offset, $E5 (R174). -/
  | bitIx1 (o : Byte)
  /-- `BIT` indexed, no offset, $F5 (R174). -/
  | bitIx
  /-- `LDA` immediate, $A6 (R180). -/
  | ldaImm (v : Byte)
  /-- `LDA` direct, $B6 (R180). -/
  | ldaDir (d : Byte)
  /-- `LDA` extended, $C6 (R180). -/
  | ldaExt (a : Addr)
  /-- `LDA` indexed, 16-bit offset, $D6 (R180). -/
  | ldaIx2 (o : Addr)
  /-- `LDA` indexed, 8-bit offset, $E6 (R180). -/
  | ldaIx1 (o : Byte)
  /-- `LDA` indexed, no offset, $F6 (R180). -/
  | ldaIx
  /-- `STA` direct, $B7 (R184). -/
  | staDir (d : Byte)
  /-- `STA` extended, $C7 (R184). -/
  | staExt (a : Addr)
  /-- `STA` indexed, 16-bit offset, $D7 (R184). -/
  | staIx2 (o : Addr)
  /-- `STA` indexed, 8-bit offset, $E7 (R184). -/
  | staIx1 (o : Byte)
  /-- `STA` indexed, no offset, $F7 (R184). -/
  | staIx
  /-- `EOR` immediate, $A8 (R177). -/
  | eorImm (v : Byte)
  /-- `EOR` direct, $B8 (R177). -/
  | eorDir (d : Byte)
  /-- `EOR` extended, $C8 (R177). -/
  | eorExt (a : Addr)
  /-- `EOR` indexed, 16-bit offset, $D8 (R177). -/
  | eorIx2 (o : Addr)
  /-- `EOR` indexed, 8-bit offset, $E8 (R177). -/
  | eorIx1 (o : Byte)
  /-- `EOR` indexed, no offset, $F8 (R177). -/
  | eorIx
  /-- `ADC` immediate, $A9 (R171). -/
  | adcImm (v : Byte)
  /-- `ADC` direct, $B9 (R171). -/
  | adcDir (d : Byte)
  /-- `ADC` extended, $C9 (R171). -/
  | adcExt (a : Addr)
  /-- `ADC` indexed, 16-bit offset, $D9 (R171). -/
  | adcIx2 (o : Addr)
  /-- `ADC` indexed, 8-bit offset, $E9 (R171). -/
  | adcIx1 (o : Byte)
  /-- `ADC` indexed, no offset, $F9 (R171). -/
  | adcIx
  /-- `ORA` immediate, $AA (R182). -/
  | oraImm (v : Byte)
  /-- `ORA` direct, $BA (R182). -/
  | oraDir (d : Byte)
  /-- `ORA` extended, $CA (R182). -/
  | oraExt (a : Addr)
  /-- `ORA` indexed, 16-bit offset, $DA (R182). -/
  | oraIx2 (o : Addr)
  /-- `ORA` indexed, 8-bit offset, $EA (R182). -/
  | oraIx1 (o : Byte)
  /-- `ORA` indexed, no offset, $FA (R182). -/
  | oraIx
  /-- `ADD` immediate, $AB (R172). -/
  | addImm (v : Byte)
  /-- `ADD` direct, $BB (R172). -/
  | addDir (d : Byte)
  /-- `ADD` extended, $CB (R172). -/
  | addExt (a : Addr)
  /-- `ADD` indexed, 16-bit offset, $DB (R172). -/
  | addIx2 (o : Addr)
  /-- `ADD` indexed, 8-bit offset, $EB (R172). -/
  | addIx1 (o : Byte)
  /-- `ADD` indexed, no offset, $FB (R172). -/
  | addIx
  /-- `JMP` direct, $BC (R178). -/
  | jmpDir (d : Byte)
  /-- `JMP` extended, $CC (R178). -/
  | jmpExt (a : Addr)
  /-- `JMP` indexed, 16-bit offset, $DC (R178). -/
  | jmpIx2 (o : Addr)
  /-- `JMP` indexed, 8-bit offset, $EC (R178). -/
  | jmpIx1 (o : Byte)
  /-- `JMP` indexed, no offset, $FC (R178). -/
  | jmpIx
  /-- `JSR` direct, $BD (R179). -/
  | jsrDir (d : Byte)
  /-- `JSR` extended, $CD (R179). -/
  | jsrExt (a : Addr)
  /-- `JSR` indexed, 16-bit offset, $DD (R179). -/
  | jsrIx2 (o : Addr)
  /-- `JSR` indexed, 8-bit offset, $ED (R179). -/
  | jsrIx1 (o : Byte)
  /-- `JSR` indexed, no offset, $FD (R179). -/
  | jsrIx
  /-- `LDX` immediate, $AE (R181). -/
  | ldxImm (v : Byte)
  /-- `LDX` direct, $BE (R181). -/
  | ldxDir (d : Byte)
  /-- `LDX` extended, $CE (R181). -/
  | ldxExt (a : Addr)
  /-- `LDX` indexed, 16-bit offset, $DE (R181). -/
  | ldxIx2 (o : Addr)
  /-- `LDX` indexed, 8-bit offset, $EE (R181). -/
  | ldxIx1 (o : Byte)
  /-- `LDX` indexed, no offset, $FE (R181). -/
  | ldxIx
  /-- `STX` direct, $BF (R185). -/
  | stxDir (d : Byte)
  /-- `STX` extended, $CF (R185). -/
  | stxExt (a : Addr)
  /-- `STX` indexed, 16-bit offset, $DF (R185). -/
  | stxIx2 (o : Addr)
  /-- `STX` indexed, 8-bit offset, $EF (R185). -/
  | stxIx1 (o : Byte)
  /-- `STX` indexed, no offset, $FF (R185). -/
  | stxIx
  deriving DecidableEq, Repr

end Sys2Proof
end

