-- ==== Sys2Proof/WellFormed.lean ====
section
/-! DEFINITION. Which instructions are well formed for a member (spec/30_encoding.md R99, R102; spec/45_control.md R284).
Every value of every operand field is legal (R100), so the two checks are the family and the primary name. -/

namespace Sys2Proof

/-- The same instruction under the name the opcode table marks as primary (R102). -/
def Instr.primary (i : Instr) : Instr :=
  match i with
  | .bhs r => .bcc r
  | .blo r => .bcs r
  | .aslDir d => .lslDir d
  | .asla => .lsla
  | .aslx => .lslx
  | .aslIx1 o => .lslIx1 o
  | .aslIx => .lslIx
  | .brset n d r => .brset n d r
  | .brclr n d r => .brclr n d r
  | .bset n d => .bset n d
  | .bclr n d => .bclr n d
  | .bra r => .bra r
  | .brn r => .brn r
  | .bhi r => .bhi r
  | .bls r => .bls r
  | .bcc r => .bcc r
  | .bcs r => .bcs r
  | .bne r => .bne r
  | .beq r => .beq r
  | .bhcc r => .bhcc r
  | .bhcs r => .bhcs r
  | .bpl r => .bpl r
  | .bmi r => .bmi r
  | .bmc r => .bmc r
  | .bms r => .bms r
  | .bil r => .bil r
  | .bih r => .bih r
  | .bsr r => .bsr r
  | .negDir d => .negDir d
  | .nega => .nega
  | .negx => .negx
  | .negIx1 o => .negIx1 o
  | .negIx => .negIx
  | .comDir d => .comDir d
  | .coma => .coma
  | .comx => .comx
  | .comIx1 o => .comIx1 o
  | .comIx => .comIx
  | .lsrDir d => .lsrDir d
  | .lsra => .lsra
  | .lsrx => .lsrx
  | .lsrIx1 o => .lsrIx1 o
  | .lsrIx => .lsrIx
  | .rorDir d => .rorDir d
  | .rora => .rora
  | .rorx => .rorx
  | .rorIx1 o => .rorIx1 o
  | .rorIx => .rorIx
  | .asrDir d => .asrDir d
  | .asra => .asra
  | .asrx => .asrx
  | .asrIx1 o => .asrIx1 o
  | .asrIx => .asrIx
  | .lslDir d => .lslDir d
  | .lsla => .lsla
  | .lslx => .lslx
  | .lslIx1 o => .lslIx1 o
  | .lslIx => .lslIx
  | .rolDir d => .rolDir d
  | .rola => .rola
  | .rolx => .rolx
  | .rolIx1 o => .rolIx1 o
  | .rolIx => .rolIx
  | .decDir d => .decDir d
  | .deca => .deca
  | .decx => .decx
  | .decIx1 o => .decIx1 o
  | .decIx => .decIx
  | .incDir d => .incDir d
  | .inca => .inca
  | .incx => .incx
  | .incIx1 o => .incIx1 o
  | .incIx => .incIx
  | .tstDir d => .tstDir d
  | .tsta => .tsta
  | .tstx => .tstx
  | .tstIx1 o => .tstIx1 o
  | .tstIx => .tstIx
  | .clrDir d => .clrDir d
  | .clra => .clra
  | .clrx => .clrx
  | .clrIx1 o => .clrIx1 o
  | .clrIx => .clrIx
  | .rti => .rti
  | .rts => .rts
  | .swi => .swi
  | .stop => .stop
  | .wait => .wait
  | .tax => .tax
  | .clc => .clc
  | .sec => .sec
  | .cli => .cli
  | .sei => .sei
  | .rsp => .rsp
  | .nop => .nop
  | .txa => .txa
  | .subImm v => .subImm v
  | .subDir d => .subDir d
  | .subExt a => .subExt a
  | .subIx2 o => .subIx2 o
  | .subIx1 o => .subIx1 o
  | .subIx => .subIx
  | .cmpImm v => .cmpImm v
  | .cmpDir d => .cmpDir d
  | .cmpExt a => .cmpExt a
  | .cmpIx2 o => .cmpIx2 o
  | .cmpIx1 o => .cmpIx1 o
  | .cmpIx => .cmpIx
  | .sbcImm v => .sbcImm v
  | .sbcDir d => .sbcDir d
  | .sbcExt a => .sbcExt a
  | .sbcIx2 o => .sbcIx2 o
  | .sbcIx1 o => .sbcIx1 o
  | .sbcIx => .sbcIx
  | .cpxImm v => .cpxImm v
  | .cpxDir d => .cpxDir d
  | .cpxExt a => .cpxExt a
  | .cpxIx2 o => .cpxIx2 o
  | .cpxIx1 o => .cpxIx1 o
  | .cpxIx => .cpxIx
  | .andImm v => .andImm v
  | .andDir d => .andDir d
  | .andExt a => .andExt a
  | .andIx2 o => .andIx2 o
  | .andIx1 o => .andIx1 o
  | .andIx => .andIx
  | .bitImm v => .bitImm v
  | .bitDir d => .bitDir d
  | .bitExt a => .bitExt a
  | .bitIx2 o => .bitIx2 o
  | .bitIx1 o => .bitIx1 o
  | .bitIx => .bitIx
  | .ldaImm v => .ldaImm v
  | .ldaDir d => .ldaDir d
  | .ldaExt a => .ldaExt a
  | .ldaIx2 o => .ldaIx2 o
  | .ldaIx1 o => .ldaIx1 o
  | .ldaIx => .ldaIx
  | .staDir d => .staDir d
  | .staExt a => .staExt a
  | .staIx2 o => .staIx2 o
  | .staIx1 o => .staIx1 o
  | .staIx => .staIx
  | .eorImm v => .eorImm v
  | .eorDir d => .eorDir d
  | .eorExt a => .eorExt a
  | .eorIx2 o => .eorIx2 o
  | .eorIx1 o => .eorIx1 o
  | .eorIx => .eorIx
  | .adcImm v => .adcImm v
  | .adcDir d => .adcDir d
  | .adcExt a => .adcExt a
  | .adcIx2 o => .adcIx2 o
  | .adcIx1 o => .adcIx1 o
  | .adcIx => .adcIx
  | .oraImm v => .oraImm v
  | .oraDir d => .oraDir d
  | .oraExt a => .oraExt a
  | .oraIx2 o => .oraIx2 o
  | .oraIx1 o => .oraIx1 o
  | .oraIx => .oraIx
  | .addImm v => .addImm v
  | .addDir d => .addDir d
  | .addExt a => .addExt a
  | .addIx2 o => .addIx2 o
  | .addIx1 o => .addIx1 o
  | .addIx => .addIx
  | .jmpDir d => .jmpDir d
  | .jmpExt a => .jmpExt a
  | .jmpIx2 o => .jmpIx2 o
  | .jmpIx1 o => .jmpIx1 o
  | .jmpIx => .jmpIx
  | .jsrDir d => .jsrDir d
  | .jsrExt a => .jsrExt a
  | .jsrIx2 o => .jsrIx2 o
  | .jsrIx1 o => .jsrIx1 o
  | .jsrIx => .jsrIx
  | .ldxImm v => .ldxImm v
  | .ldxDir d => .ldxDir d
  | .ldxExt a => .ldxExt a
  | .ldxIx2 o => .ldxIx2 o
  | .ldxIx1 o => .ldxIx1 o
  | .ldxIx => .ldxIx
  | .stxDir d => .stxDir d
  | .stxExt a => .stxExt a
  | .stxIx2 o => .stxIx2 o
  | .stxIx1 o => .stxIx1 o
  | .stxIx => .stxIx

/-- Whether the member's instruction set has the instruction: STOP and WAIT exist on CMOS only (R284). -/
def Instr.availableIn (fam : Family) (i : Instr) : Bool :=
  match i, fam with
  | .stop, .hmos => false
  | .wait, .hmos => false
  | _, _ => true

/-- An instruction is well formed for a member when the member has it and it is written under its primary name. -/
abbrev Instr.WellFormed (fam : Family) (i : Instr) : Prop :=
  i.availableIn fam = true ∧ i.primary = i

end Sys2Proof
end

