-- ==== Sys2Proof/Decode.lean ====
section
/-! DEFINITION. Decoding and encoding (spec/30_encoding.md R90 to R104): the columns of the opcode map, a decoder that is
total on any bytes and rejects by name, and the encoder. -/

namespace Sys2Proof

/-- Why bytes are no instruction. -/
inductive Reject where
  /-- the opcode byte has no instruction on this member (R99) -/
  | undefinedOpcode (op : Byte)
  /-- the bytes end before the instruction does -/
  | truncated
  deriving DecidableEq, Repr

/-- What the decoder answers: an instruction and the bytes after it, or the name of the rejection. -/
inductive Decoded where
  | ok (i : Instr) (rest : List Byte)
  | rejected (why : Reject)
  deriving DecidableEq, Repr

/-- An opcode's operand bytes and what they make of it: none, one byte, two bytes, or one 16-bit value high byte first
(the ten formats of R92, by operand). -/
inductive Shape where
  | plain (i : Instr)
  | one (f : Byte → Instr)
  | two (f : Byte → Byte → Instr)
  | word (f : Addr → Instr)

/-- `hi:lo`, the concatenation of two bytes with `hi` most significant (R7). -/
def wordOf (hi lo : Byte) : Addr := hi ++ lo

/-- The bit number of rows 0 and 1, `op[3:1]` (R95). -/
def bitNumber (op : Byte) : BitVec 3 := op.extractLsb' 1 3

/-- Column 2: the branches (R96). -/
def columnBranch (lo : Nat) : Option Shape :=
  match lo with
  | 0x0 => some (.one .bra)
  | 0x1 => some (.one .brn)
  | 0x2 => some (.one .bhi)
  | 0x3 => some (.one .bls)
  | 0x4 => some (.one .bcc)
  | 0x5 => some (.one .bcs)
  | 0x6 => some (.one .bne)
  | 0x7 => some (.one .beq)
  | 0x8 => some (.one .bhcc)
  | 0x9 => some (.one .bhcs)
  | 0xA => some (.one .bpl)
  | 0xB => some (.one .bmi)
  | 0xC => some (.one .bmc)
  | 0xD => some (.one .bms)
  | 0xE => some (.one .bil)
  | 0xF => some (.one .bih)
  | _ => none

/-- Column 3: read/modify/write on a direct address (R96). -/
def columnRmwDir (lo : Nat) : Option Shape :=
  match lo with
  | 0x0 => some (.one .negDir)
  | 0x3 => some (.one .comDir)
  | 0x4 => some (.one .lsrDir)
  | 0x6 => some (.one .rorDir)
  | 0x7 => some (.one .asrDir)
  | 0x8 => some (.one .lslDir)
  | 0x9 => some (.one .rolDir)
  | 0xA => some (.one .decDir)
  | 0xC => some (.one .incDir)
  | 0xD => some (.one .tstDir)
  | 0xF => some (.one .clrDir)
  | _ => none

/-- Column 4: read/modify/write on A (R96). -/
def columnRmwA (lo : Nat) : Option Shape :=
  match lo with
  | 0x0 => some (.plain .nega)
  | 0x3 => some (.plain .coma)
  | 0x4 => some (.plain .lsra)
  | 0x6 => some (.plain .rora)
  | 0x7 => some (.plain .asra)
  | 0x8 => some (.plain .lsla)
  | 0x9 => some (.plain .rola)
  | 0xA => some (.plain .deca)
  | 0xC => some (.plain .inca)
  | 0xD => some (.plain .tsta)
  | 0xF => some (.plain .clra)
  | _ => none

/-- Column 5: read/modify/write on X (R96). -/
def columnRmwX (lo : Nat) : Option Shape :=
  match lo with
  | 0x0 => some (.plain .negx)
  | 0x3 => some (.plain .comx)
  | 0x4 => some (.plain .lsrx)
  | 0x6 => some (.plain .rorx)
  | 0x7 => some (.plain .asrx)
  | 0x8 => some (.plain .lslx)
  | 0x9 => some (.plain .rolx)
  | 0xA => some (.plain .decx)
  | 0xC => some (.plain .incx)
  | 0xD => some (.plain .tstx)
  | 0xF => some (.plain .clrx)
  | _ => none

/-- Column 6: read/modify/write, 8-bit offset (R96). -/
def columnRmwIx1 (lo : Nat) : Option Shape :=
  match lo with
  | 0x0 => some (.one .negIx1)
  | 0x3 => some (.one .comIx1)
  | 0x4 => some (.one .lsrIx1)
  | 0x6 => some (.one .rorIx1)
  | 0x7 => some (.one .asrIx1)
  | 0x8 => some (.one .lslIx1)
  | 0x9 => some (.one .rolIx1)
  | 0xA => some (.one .decIx1)
  | 0xC => some (.one .incIx1)
  | 0xD => some (.one .tstIx1)
  | 0xF => some (.one .clrIx1)
  | _ => none

/-- Column 7: read/modify/write, no offset (R96). -/
def columnRmwIx (lo : Nat) : Option Shape :=
  match lo with
  | 0x0 => some (.plain .negIx)
  | 0x3 => some (.plain .comIx)
  | 0x4 => some (.plain .lsrIx)
  | 0x6 => some (.plain .rorIx)
  | 0x7 => some (.plain .asrIx)
  | 0x8 => some (.plain .lslIx)
  | 0x9 => some (.plain .rolIx)
  | 0xA => some (.plain .decIx)
  | 0xC => some (.plain .incIx)
  | 0xD => some (.plain .tstIx)
  | 0xF => some (.plain .clrIx)
  | _ => none

/-- Column 8: control; STOP and WAIT on CMOS only (R96, R99). -/
def columnControl8 (fam : Family) (lo : Nat) : Option Shape :=
  match lo, fam with
  | 0x0, _ => some (.plain .rti)
  | 0x1, _ => some (.plain .rts)
  | 0x3, _ => some (.plain .swi)
  | 0xE, .cmos => some (.plain .stop)
  | 0xF, .cmos => some (.plain .wait)
  | _, _ => none

/-- Column 9: control (R96). -/
def columnControl9 (lo : Nat) : Option Shape :=
  match lo with
  | 0x7 => some (.plain .tax)
  | 0x8 => some (.plain .clc)
  | 0x9 => some (.plain .sec)
  | 0xA => some (.plain .cli)
  | 0xB => some (.plain .sei)
  | 0xC => some (.plain .rsp)
  | 0xD => some (.plain .nop)
  | 0xF => some (.plain .txa)
  | _ => none

/-- Column A: register/memory, immediate, and BSR at $AD (R96). -/
def columnImm (lo : Nat) : Option Shape :=
  match lo with
  | 0x0 => some (.one .subImm)
  | 0x1 => some (.one .cmpImm)
  | 0x2 => some (.one .sbcImm)
  | 0x3 => some (.one .cpxImm)
  | 0x4 => some (.one .andImm)
  | 0x5 => some (.one .bitImm)
  | 0x6 => some (.one .ldaImm)
  | 0x8 => some (.one .eorImm)
  | 0x9 => some (.one .adcImm)
  | 0xA => some (.one .oraImm)
  | 0xB => some (.one .addImm)
  | 0xD => some (.one .bsr)
  | 0xE => some (.one .ldxImm)
  | _ => none

/-- Column B: register/memory, direct (R96). -/
def columnDir (lo : Nat) : Option Shape :=
  match lo with
  | 0x0 => some (.one .subDir)
  | 0x1 => some (.one .cmpDir)
  | 0x2 => some (.one .sbcDir)
  | 0x3 => some (.one .cpxDir)
  | 0x4 => some (.one .andDir)
  | 0x5 => some (.one .bitDir)
  | 0x6 => some (.one .ldaDir)
  | 0x7 => some (.one .staDir)
  | 0x8 => some (.one .eorDir)
  | 0x9 => some (.one .adcDir)
  | 0xA => some (.one .oraDir)
  | 0xB => some (.one .addDir)
  | 0xC => some (.one .jmpDir)
  | 0xD => some (.one .jsrDir)
  | 0xE => some (.one .ldxDir)
  | 0xF => some (.one .stxDir)
  | _ => none

/-- Column C: register/memory, extended (R96). -/
def columnExt (lo : Nat) : Option Shape :=
  match lo with
  | 0x0 => some (.word .subExt)
  | 0x1 => some (.word .cmpExt)
  | 0x2 => some (.word .sbcExt)
  | 0x3 => some (.word .cpxExt)
  | 0x4 => some (.word .andExt)
  | 0x5 => some (.word .bitExt)
  | 0x6 => some (.word .ldaExt)
  | 0x7 => some (.word .staExt)
  | 0x8 => some (.word .eorExt)
  | 0x9 => some (.word .adcExt)
  | 0xA => some (.word .oraExt)
  | 0xB => some (.word .addExt)
  | 0xC => some (.word .jmpExt)
  | 0xD => some (.word .jsrExt)
  | 0xE => some (.word .ldxExt)
  | 0xF => some (.word .stxExt)
  | _ => none

/-- Column D: register/memory, indexed, 16-bit offset (R96). -/
def columnIx2 (lo : Nat) : Option Shape :=
  match lo with
  | 0x0 => some (.word .subIx2)
  | 0x1 => some (.word .cmpIx2)
  | 0x2 => some (.word .sbcIx2)
  | 0x3 => some (.word .cpxIx2)
  | 0x4 => some (.word .andIx2)
  | 0x5 => some (.word .bitIx2)
  | 0x6 => some (.word .ldaIx2)
  | 0x7 => some (.word .staIx2)
  | 0x8 => some (.word .eorIx2)
  | 0x9 => some (.word .adcIx2)
  | 0xA => some (.word .oraIx2)
  | 0xB => some (.word .addIx2)
  | 0xC => some (.word .jmpIx2)
  | 0xD => some (.word .jsrIx2)
  | 0xE => some (.word .ldxIx2)
  | 0xF => some (.word .stxIx2)
  | _ => none

/-- Column E: register/memory, indexed, 8-bit offset (R96). -/
def columnIx1 (lo : Nat) : Option Shape :=
  match lo with
  | 0x0 => some (.one .subIx1)
  | 0x1 => some (.one .cmpIx1)
  | 0x2 => some (.one .sbcIx1)
  | 0x3 => some (.one .cpxIx1)
  | 0x4 => some (.one .andIx1)
  | 0x5 => some (.one .bitIx1)
  | 0x6 => some (.one .ldaIx1)
  | 0x7 => some (.one .staIx1)
  | 0x8 => some (.one .eorIx1)
  | 0x9 => some (.one .adcIx1)
  | 0xA => some (.one .oraIx1)
  | 0xB => some (.one .addIx1)
  | 0xC => some (.one .jmpIx1)
  | 0xD => some (.one .jsrIx1)
  | 0xE => some (.one .ldxIx1)
  | 0xF => some (.one .stxIx1)
  | _ => none

/-- Column F: register/memory, indexed, no offset (R96). -/
def columnIx (lo : Nat) : Option Shape :=
  match lo with
  | 0x0 => some (.plain .subIx)
  | 0x1 => some (.plain .cmpIx)
  | 0x2 => some (.plain .sbcIx)
  | 0x3 => some (.plain .cpxIx)
  | 0x4 => some (.plain .andIx)
  | 0x5 => some (.plain .bitIx)
  | 0x6 => some (.plain .ldaIx)
  | 0x7 => some (.plain .staIx)
  | 0x8 => some (.plain .eorIx)
  | 0x9 => some (.plain .adcIx)
  | 0xA => some (.plain .oraIx)
  | 0xB => some (.plain .addIx)
  | 0xC => some (.plain .jmpIx)
  | 0xD => some (.plain .jsrIx)
  | 0xE => some (.plain .ldxIx)
  | 0xF => some (.plain .stxIx)
  | _ => none

/-- The opcode map (R94 to R97): the high nibble selects the column, the low nibble the row. -/
def opcodeShape (fam : Family) (op : Byte) : Option Shape :=
  let lo := op.toNat % 16
  match op.toNat / 16 with
  | 0x0 => some (.two (if lo % 2 = 0 then .brset (bitNumber op) else .brclr (bitNumber op)))
  | 0x1 => some (.one (if lo % 2 = 0 then .bset (bitNumber op) else .bclr (bitNumber op)))
  | 0x2 => columnBranch lo
  | 0x3 => columnRmwDir lo
  | 0x4 => columnRmwA lo
  | 0x5 => columnRmwX lo
  | 0x6 => columnRmwIx1 lo
  | 0x7 => columnRmwIx lo
  | 0x8 => columnControl8 fam lo
  | 0x9 => columnControl9 lo
  | 0xA => columnImm lo
  | 0xB => columnDir lo
  | 0xC => columnExt lo
  | 0xD => columnIx2 lo
  | 0xE => columnIx1 lo
  | _ => columnIx lo

/-- The number of bytes of an instruction, from the high nibble of its opcode (R94). -/
def instrLength (op : Byte) : Nat :=
  match op.toNat / 16 with
  | 0x0 | 0xC | 0xD => 3
  | 0x1 | 0x2 | 0x3 | 0x6 | 0xA | 0xB | 0xE => 2
  | _ => 1

/-- The instruction a shape makes of the bytes after the opcode. -/
def Shape.read (sh : Shape) (bytes : List Byte) : Decoded :=
  match sh, bytes with
  | .plain i, rest => .ok i rest
  | .one f, b :: rest => .ok (f b) rest
  | .two f, b :: c :: rest => .ok (f b c) rest
  | .word f, hi :: lo :: rest => .ok (f (wordOf hi lo)) rest
  | _, _ => .rejected .truncated

/-- Decode the instruction at the head of some bytes (R101): total, needing one byte of lookahead. -/
def decode (fam : Family) (bytes : List Byte) : Decoded :=
  match bytes with
  | [] => .rejected .truncated
  | op :: rest =>
    match opcodeShape fam op with
    | none => .rejected (.undefinedOpcode op)
    | some sh => sh.read rest

/-- The opcode of a bit instruction: `base + 2 n` (R95). -/
def bitOpcode (base : Byte) (n : BitVec 3) : Byte := base + 2 * n.setWidth 8

/-- The high byte of a 16-bit operand. -/
def hiByte (w : Addr) : Byte := w.extractLsb' 8 8

/-- The low byte of a 16-bit operand. -/
def loByte (w : Addr) : Byte := w.extractLsb' 0 8

/-- The bytes of an instruction, first byte first (R92, and the opcode map R97). -/
def encode (i : Instr) : List Byte :=
  match i with
  | .brset n d r => [bitOpcode 0x00 n, d, r]
  | .brclr n d r => [bitOpcode 0x01 n, d, r]
  | .bset n d => [bitOpcode 0x10 n, d]
  | .bclr n d => [bitOpcode 0x11 n, d]
  | .bra r => [0x20, r]
  | .brn r => [0x21, r]
  | .bhi r => [0x22, r]
  | .bls r => [0x23, r]
  | .bcc r => [0x24, r]
  | .bcs r => [0x25, r]
  | .bne r => [0x26, r]
  | .beq r => [0x27, r]
  | .bhcc r => [0x28, r]
  | .bhcs r => [0x29, r]
  | .bpl r => [0x2A, r]
  | .bmi r => [0x2B, r]
  | .bmc r => [0x2C, r]
  | .bms r => [0x2D, r]
  | .bil r => [0x2E, r]
  | .bih r => [0x2F, r]
  | .bhs r => [0x24, r]
  | .blo r => [0x25, r]
  | .bsr r => [0xAD, r]
  | .negDir d => [0x30, d]
  | .nega => [0x40]
  | .negx => [0x50]
  | .negIx1 o => [0x60, o]
  | .negIx => [0x70]
  | .comDir d => [0x33, d]
  | .coma => [0x43]
  | .comx => [0x53]
  | .comIx1 o => [0x63, o]
  | .comIx => [0x73]
  | .lsrDir d => [0x34, d]
  | .lsra => [0x44]
  | .lsrx => [0x54]
  | .lsrIx1 o => [0x64, o]
  | .lsrIx => [0x74]
  | .rorDir d => [0x36, d]
  | .rora => [0x46]
  | .rorx => [0x56]
  | .rorIx1 o => [0x66, o]
  | .rorIx => [0x76]
  | .asrDir d => [0x37, d]
  | .asra => [0x47]
  | .asrx => [0x57]
  | .asrIx1 o => [0x67, o]
  | .asrIx => [0x77]
  | .lslDir d => [0x38, d]
  | .aslDir d => [0x38, d]
  | .lsla => [0x48]
  | .asla => [0x48]
  | .lslx => [0x58]
  | .aslx => [0x58]
  | .lslIx1 o => [0x68, o]
  | .aslIx1 o => [0x68, o]
  | .lslIx => [0x78]
  | .aslIx => [0x78]
  | .rolDir d => [0x39, d]
  | .rola => [0x49]
  | .rolx => [0x59]
  | .rolIx1 o => [0x69, o]
  | .rolIx => [0x79]
  | .decDir d => [0x3A, d]
  | .deca => [0x4A]
  | .decx => [0x5A]
  | .decIx1 o => [0x6A, o]
  | .decIx => [0x7A]
  | .incDir d => [0x3C, d]
  | .inca => [0x4C]
  | .incx => [0x5C]
  | .incIx1 o => [0x6C, o]
  | .incIx => [0x7C]
  | .tstDir d => [0x3D, d]
  | .tsta => [0x4D]
  | .tstx => [0x5D]
  | .tstIx1 o => [0x6D, o]
  | .tstIx => [0x7D]
  | .clrDir d => [0x3F, d]
  | .clra => [0x4F]
  | .clrx => [0x5F]
  | .clrIx1 o => [0x6F, o]
  | .clrIx => [0x7F]
  | .rti => [0x80]
  | .rts => [0x81]
  | .swi => [0x83]
  | .stop => [0x8E]
  | .wait => [0x8F]
  | .tax => [0x97]
  | .clc => [0x98]
  | .sec => [0x99]
  | .cli => [0x9A]
  | .sei => [0x9B]
  | .rsp => [0x9C]
  | .nop => [0x9D]
  | .txa => [0x9F]
  | .subImm v => [0xA0, v]
  | .subDir d => [0xB0, d]
  | .subExt a => [0xC0, hiByte a, loByte a]
  | .subIx2 o => [0xD0, hiByte o, loByte o]
  | .subIx1 o => [0xE0, o]
  | .subIx => [0xF0]
  | .cmpImm v => [0xA1, v]
  | .cmpDir d => [0xB1, d]
  | .cmpExt a => [0xC1, hiByte a, loByte a]
  | .cmpIx2 o => [0xD1, hiByte o, loByte o]
  | .cmpIx1 o => [0xE1, o]
  | .cmpIx => [0xF1]
  | .sbcImm v => [0xA2, v]
  | .sbcDir d => [0xB2, d]
  | .sbcExt a => [0xC2, hiByte a, loByte a]
  | .sbcIx2 o => [0xD2, hiByte o, loByte o]
  | .sbcIx1 o => [0xE2, o]
  | .sbcIx => [0xF2]
  | .cpxImm v => [0xA3, v]
  | .cpxDir d => [0xB3, d]
  | .cpxExt a => [0xC3, hiByte a, loByte a]
  | .cpxIx2 o => [0xD3, hiByte o, loByte o]
  | .cpxIx1 o => [0xE3, o]
  | .cpxIx => [0xF3]
  | .andImm v => [0xA4, v]
  | .andDir d => [0xB4, d]
  | .andExt a => [0xC4, hiByte a, loByte a]
  | .andIx2 o => [0xD4, hiByte o, loByte o]
  | .andIx1 o => [0xE4, o]
  | .andIx => [0xF4]
  | .bitImm v => [0xA5, v]
  | .bitDir d => [0xB5, d]
  | .bitExt a => [0xC5, hiByte a, loByte a]
  | .bitIx2 o => [0xD5, hiByte o, loByte o]
  | .bitIx1 o => [0xE5, o]
  | .bitIx => [0xF5]
  | .ldaImm v => [0xA6, v]
  | .ldaDir d => [0xB6, d]
  | .ldaExt a => [0xC6, hiByte a, loByte a]
  | .ldaIx2 o => [0xD6, hiByte o, loByte o]
  | .ldaIx1 o => [0xE6, o]
  | .ldaIx => [0xF6]
  | .staDir d => [0xB7, d]
  | .staExt a => [0xC7, hiByte a, loByte a]
  | .staIx2 o => [0xD7, hiByte o, loByte o]
  | .staIx1 o => [0xE7, o]
  | .staIx => [0xF7]
  | .eorImm v => [0xA8, v]
  | .eorDir d => [0xB8, d]
  | .eorExt a => [0xC8, hiByte a, loByte a]
  | .eorIx2 o => [0xD8, hiByte o, loByte o]
  | .eorIx1 o => [0xE8, o]
  | .eorIx => [0xF8]
  | .adcImm v => [0xA9, v]
  | .adcDir d => [0xB9, d]
  | .adcExt a => [0xC9, hiByte a, loByte a]
  | .adcIx2 o => [0xD9, hiByte o, loByte o]
  | .adcIx1 o => [0xE9, o]
  | .adcIx => [0xF9]
  | .oraImm v => [0xAA, v]
  | .oraDir d => [0xBA, d]
  | .oraExt a => [0xCA, hiByte a, loByte a]
  | .oraIx2 o => [0xDA, hiByte o, loByte o]
  | .oraIx1 o => [0xEA, o]
  | .oraIx => [0xFA]
  | .addImm v => [0xAB, v]
  | .addDir d => [0xBB, d]
  | .addExt a => [0xCB, hiByte a, loByte a]
  | .addIx2 o => [0xDB, hiByte o, loByte o]
  | .addIx1 o => [0xEB, o]
  | .addIx => [0xFB]
  | .jmpDir d => [0xBC, d]
  | .jmpExt a => [0xCC, hiByte a, loByte a]
  | .jmpIx2 o => [0xDC, hiByte o, loByte o]
  | .jmpIx1 o => [0xEC, o]
  | .jmpIx => [0xFC]
  | .jsrDir d => [0xBD, d]
  | .jsrExt a => [0xCD, hiByte a, loByte a]
  | .jsrIx2 o => [0xDD, hiByte o, loByte o]
  | .jsrIx1 o => [0xED, o]
  | .jsrIx => [0xFD]
  | .ldxImm v => [0xAE, v]
  | .ldxDir d => [0xBE, d]
  | .ldxExt a => [0xCE, hiByte a, loByte a]
  | .ldxIx2 o => [0xDE, hiByte o, loByte o]
  | .ldxIx1 o => [0xEE, o]
  | .ldxIx => [0xFE]
  | .stxDir d => [0xBF, d]
  | .stxExt a => [0xCF, hiByte a, loByte a]
  | .stxIx2 o => [0xDF, hiByte o, loByte o]
  | .stxIx1 o => [0xEF, o]
  | .stxIx => [0xFF]

/-- The bytes of a table word: the table numbers a row's bits as ONE number with the opcode byte on top, so the first byte is
bits `nbits-1` down to `nbits-8` (spec/98_reader.md); operand bytes the table gives no bits are zero (log entry 16). -/
def tableWordBytes (nbits w : Nat) : List Byte :=
  let count := nbits / 8
  ((List.range count).map fun k => BitVec.ofNat 8 (w >>> (8 * (count - 1 - k)))) ++ [0, 0, 0]

/-- The instruction the decoder reads from a table word, on a CMOS member (which has every row). -/
def decodeTableWord (nbits w : Nat) : Option Instr :=
  match decode .cmos (tableWordBytes nbits w) with
  | .ok i _ => some i
  | .rejected _ => none

end Sys2Proof
end

