-- ==== Sys2Proof/Machine/Ops.lean ====
section
/-! DEFINITION. The named operations over registers and memory: addresses, one-byte accesses, the instruction fetch, the
stack, the stacked forms of PC and CC, taking an interrupt and returning from one, and reset. -/

namespace Sys2Proof.Machine

/-! ### Addresses -/

/-- `AMASK = 2^ADDR_BITS - 1` (R9). -/
def addrMask (c : Config) : Addr := BitVec.ofNat 16 (2 ^ c.addrBits - 1)

/-- `trunc(v) = v mod 2^ADDR_BITS` (R9, R66, decisions D1 and D2). -/
def trunc (c : Config) (v : Addr) : Addr := v &&& addrMask c

/-- `N_TOP`, the address with all address lines high (R6). -/
def nTop (c : Config) : Addr := addrMask c

/-- `VEC_SWI = N_TOP - 3`, the address of the high byte of the software interrupt vector (R6, R280). -/
def vecSwi (c : Config) : Addr := nTop c - 3

/-- The mask of the counting field of the stack pointer, `2^SP_BITS - 1` (R30). -/
def spMask (c : Config) : Addr := BitVec.ofNat 16 (2 ^ c.spBits - 1)

/-- `STACK_TOP` (R30). -/
def stackTop : Addr := 0x7F

/-! ### Memory accesses, one byte each (R62) -/

/-- What the address map has at an address; RAM where no region says otherwise (decision D5). -/
def kindIn (regions : List Region) (a : Nat) : RegionKind :=
  match regions with
  | [] => .ram
  | r :: rest => if r.base ≤ a ∧ a < r.base + r.size then r.kind else kindIn rest a

/-- What the member has at the location an address reaches. -/
def kindAt (s : State) (addr : Addr) : RegionKind := kindIn s.cfg.memMap (trunc s.cfg addr).toNat

/-- The content of the location an address reaches: the last byte written to it. -/
def content (s : State) (addr : Addr) : Byte := s.mem.read (trunc s.cfg addr).toNat

/-- The byte a read of an address returns (R67): the content of RAM and ROM, $FF from a write-only register, a free value
from an I/O or an absent location. -/
def readByte (s : State) (addr : Addr) : Byte :=
  match kindAt s addr with
  | .ram | .rom => content s addr
  | .writeOnly => 0xFF
  | .io | .absent => Config.inputByte (trunc s.cfg addr).toNat s.draws

/-- The state after a read: only the count of free values drawn can change. -/
def afterRead (s : State) (addr : Addr) : State :=
  match kindAt s addr with
  | .ram | .rom | .writeOnly => s
  | .io | .absent => s.setDraws (s.draws + 1)

/-- `MemRead(addr, 1)` (R9). -/
def memRead (s : State) (addr : Addr) : Byte × State := (readByte s addr, afterRead s addr)

/-- `MemWrite(addr, 1, v)` (R9, R67): a write to ROM or to an absent location is ignored (decision D5). -/
def memWrite (s : State) (addr : Addr) (v : Byte) : State :=
  match kindAt s addr with
  | .ram | .io | .writeOnly => s.setMem (s.mem.write (trunc s.cfg addr).toNat v)
  | .rom | .absent => s

/-! ### Instruction fetch -/

/-- `Fetch8()` (R9): the byte at the PC, the PC then advanced by one (R26). -/
def fetch8 (s : State) : Byte × State :=
  (readByte s s.pc, (afterRead s s.pc).setPc (trunc s.cfg (s.pc + 1)))

/-- Fetch some bytes in ascending address order. -/
def fetchBytes (count : Nat) (s : State) : List Byte × State :=
  match count with
  | 0 => ([], s)
  | k + 1 =>
    let first := fetch8 s
    let others := fetchBytes k first.2
    (first.1 :: others.1, others.2)

/-- Fetch and decode the instruction at the PC (R101): its opcode, then the operand bytes the opcode's length asks for.
The state it answers has the PC at the next instruction (R26). -/
def fetchInstr (s : State) : Decoded × State :=
  let op := fetch8 s
  let operands := fetchBytes (instrLength op.1 - 1) op.2
  (decode s.cfg.family (op.1 :: operands.1), operands.2)

/-! ### The stack (R30 to R37) -/

/-- The stack pointer one lower in its counting field, the fixed bits kept (R34). -/
def spDown (c : Config) (sp : Addr) : Addr :=
  (sp &&& ~~~(spMask c)) ||| (((sp &&& spMask c) - 1) &&& spMask c)

/-- The stack pointer one higher in its counting field, the fixed bits kept (R35). -/
def spUp (c : Config) (sp : Addr) : Addr :=
  (sp &&& ~~~(spMask c)) ||| (((sp &&& spMask c) + 1) &&& spMask c)

/-- `Push(v)` (R34): store at SP, then decrement SP. -/
def push (v : Byte) (s : State) : State :=
  (memWrite s s.sp v).setSp (spDown s.cfg s.sp)

/-- `Pull()` (R35): increment SP, then read at the new SP. -/
def pull (s : State) : Byte × State :=
  memRead (s.setSp (spUp s.cfg s.sp)) (spUp s.cfg s.sp)

/-- `PCLbyte(pc)` (R33). -/
def pclByte (pc : Addr) : Byte := loByte pc

/-- The fixed bits above the PC in a stacked PCH: ones on HMOS, zeros on CMOS (R33). -/
def fillByte (c : Config) : Byte :=
  match c.family with
  | .hmos => BitVec.ofNat 8 ((2 ^ (16 - c.addrBits) - 1) <<< (c.addrBits - 8))
  | .cmos => 0

/-- `PCHbyte(pc)` (R33). -/
def pchByte (c : Config) (pc : Addr) : Byte := fillByte c ||| hiByte (trunc c pc)

/-- Push the PC, low byte first (R36). -/
def pushPc (s : State) : State := push (pchByte s.cfg s.pc) (push (pclByte s.pc) s)

/-- Pull the PC, high byte first; the fill bits are dropped (R33, R276). -/
def pullPc (s : State) : State :=
  let hi := pull s
  let lo := pull hi.2
  lo.2.setPc (trunc s.cfg (wordOf hi.1 lo.1))

/-- `CCbyte()` (R41): %111 then H, I, N, Z, C. -/
def ccByte (cc : CC) : Byte :=
  BitVec.ofBool true ++ BitVec.ofBool true ++ BitVec.ofBool true ++ BitVec.ofBool cc.h ++ BitVec.ofBool cc.i ++
    BitVec.ofBool cc.n ++ BitVec.ofBool cc.z ++ BitVec.ofBool cc.c

/-- `SetCC(b)` (R41): bits 7 to 5 are ignored. -/
def ccOfByte (b : Byte) : CC where
  h := b.getLsbD 4
  i := b.getLsbD 3
  n := b.getLsbD 2
  z := b.getLsbD 1
  c := b.getLsbD 0

/-- A call: stack the return address, which the PC holds, and go to the target (R179, R249). -/
def callTo (target : Addr) (s : State) : State := (pushPc s).setPc target

/-! ### Taking an interrupt, returning from one, reset -/

/-- Load the PC from a two-byte vector, high byte at the lower address (R63, R307). -/
def loadVector (vec : Addr) (s : State) : State :=
  let hi := memRead s vec
  let lo := memRead hi.2 (vec + 1)
  lo.2.setPc (trunc s.cfg (wordOf hi.1 lo.1))

/-- Push the five-byte frame PCL, PCH, X, A, CC (R36, R310). -/
def pushFrame (s : State) : State :=
  let s1 := pushPc s
  let s2 := push s1.x s1
  let s3 := push s2.a s2
  push (ccByte s3.cc) s3

/-- TAKING AN EXCEPTION: stack the frame, set the interrupt mask, load the PC from the vector.
SWI is this with its own vector (R280); a hardware interrupt is this and `interruptEntry` (R311, decision D14). -/
def takeException (vec : Addr) (s : State) : State :=
  let s1 := pushFrame s
  loadVector vec (s1.setCc { s1.cc with i := true })

/-- The vector of a hardware interrupt (R308). -/
def sourceVector (c : Config) (src : Source) : Addr :=
  match src with
  | .ext => c.vecIrq
  | .timer => c.vecTimer

/-- Hardware interrupt entry (R311): the frame, I, the vector; the external latch is cleared by its own entry; STOP and WAIT
end. -/
def interruptEntry (src : Source) (s : State) : State :=
  let s1 := takeException (sourceVector s.cfg src) s
  let s2 := match src with
    | .ext => s1.setPendExt false
    | .timer => s1
  s2.setRunState .running

/-- RETURNING FROM AN EXCEPTION (R275, R312): pull CC, A, X, PCH, PCL. -/
def returnFromException (s : State) : State :=
  let p1 := pull s
  let s1 := p1.2.setCc (ccOfByte p1.1)
  let p2 := pull s1
  let s2 := p2.2.setA p2.1
  let p3 := pull s2
  pullPc (p3.2.setX p3.1)

/-- `pend_timer` (R304): the timer's flag, as its enable lets it through. -/
def pendTimer (s : State) : Bool := s.timer.flag && s.timer.enable

/-- `TimerStopEffects()` (R279, R320): the prescaler is cleared, the timer interrupt disabled, its flag cleared. -/
def timerStopEffects (t : Timer) : Timer := { t with prescaler := 0, flag := false, enable := false }

/-- The timer device after a reset: it presents no request (decisions D7, D18); its counts are the member's, so they are free
values (log entry 9). -/
def timerAfterReset (draw : Nat) : Timer where
  prescaler := Config.prescalerAfterReset draw
  counter := Config.counterAfterReset draw
  flag := false
  enable := false

/-- `Reset()` (R341): SP, I, the requests, the run state and the PC; A, X, the other flags and memory are kept.
DESIGN CHOICE, unsafe (log entry 40): R341 leaves the state of I/O registers after reset to the member; the content of I/O and
write-only locations is kept with the rest of memory. -/
def takeReset (s : State) : State :=
  loadVector s.cfg.vecReset
    (((((s.setSp stackTop).setCc { s.cc with i := true }).setPendExt false).setTimer (timerAfterReset s.draws)).setDraws
      (s.draws + 1) |>.setRunState .running)

end Sys2Proof.Machine
end

