-- ==== Sys2Proof/Machine/Operands.lean ====
section
/-! DEFINITION. Effective addresses and operand access (spec/20_memory.md R74 to R86), and the shared shapes of the
instruction families over them. An instruction's operand bytes have been fetched, so the PC is at the next instruction. -/

namespace Sys2Proof.Machine

/-- The addressing modes that have an effective address, with their operand. -/
inductive Mode where
  | dir (d : Byte)
  | ext (a : Addr)
  | ix
  | ix1 (o : Byte)
  | ix2 (o : Addr)
  deriving DecidableEq, Repr

/-- `EA(mode)` (R77, R78, R80 to R82): X enters unsigned, the sum is not reduced to 8 bits, and every address is truncated. -/
def ea (mode : Mode) (s : State) : Addr :=
  match mode with
  | .dir d => d.setWidth 16
  | .ext a => trunc s.cfg a
  | .ix => s.x.setWidth 16
  | .ix1 o => trunc s.cfg (o.setWidth 16 + s.x.setWidth 16)
  | .ix2 o => trunc s.cfg (o + s.x.setWidth 16)

/-- `Rel()` (R83): the sign-extended offset from the address of the next instruction. -/
def relTarget (r : Byte) (s : State) : Addr := trunc s.cfg (s.pc + r.signExtend 16)

/-- Read the operand at the effective address, then go on with it (R86). -/
def withOperand (mode : Mode) (go : Byte → State → State) (s : State) : State :=
  let operand := memRead s (ea mode s)
  go operand.1 operand.2

/-- A ← A op operand (R170). -/
def onA (op : Byte → Byte → CC → Byte × CC) (m : Byte) (s : State) : State :=
  let r := op s.a m s.cc
  (s.setA r.1).setCc r.2

/-- X ← X op operand (R170). -/
def onX (op : Byte → Byte → CC → Byte × CC) (m : Byte) (s : State) : State :=
  let r := op s.x m s.cc
  (s.setX r.1).setCc r.2

/-- The flags of A op operand, the result dropped (R174, R175). -/
def testA (op : Byte → Byte → CC → Byte × CC) (m : Byte) (s : State) : State := s.setCc (op s.a m s.cc).2

/-- The flags of X op operand, the result dropped (R176). -/
def testX (op : Byte → Byte → CC → Byte × CC) (m : Byte) (s : State) : State := s.setCc (op s.x m s.cc).2

/-- Store a register's byte and set N and Z from it (R184, R185). -/
def storeByte (mode : Mode) (v : Byte) (s : State) : State :=
  (memWrite s (ea mode s) v).setCc (setNZ s.cc v)

/-- Read/modify/write of A (R201). -/
def rmwA (op : Byte → CC → Byte × CC) (s : State) : State :=
  let r := op s.a s.cc
  (s.setA r.1).setCc r.2

/-- Read/modify/write of X (R201). -/
def rmwX (op : Byte → CC → Byte × CC) (s : State) : State :=
  let r := op s.x s.cc
  (s.setX r.1).setCc r.2

/-- Read/modify/write of memory (R201): one read, then one write of the same address. -/
def rmwMem (mode : Mode) (op : Byte → CC → Byte × CC) (s : State) : State :=
  let addr := ea mode s
  let operand := memRead s addr
  let r := op operand.1 operand.2.cc
  (memWrite operand.2 addr r.1).setCc r.2

/-- TST (R213): the flags of a byte, nothing written back. -/
def tstFlags (v : Byte) (s : State) : State := s.setCc (setNZ s.cc v)

/-- A branch: to the target when the condition holds, else on (R230). -/
def branchIf (cond : Bool) (r : Byte) (s : State) : State :=
  if cond then s.setPc (relTarget r s) else s

/-- BSET and BCLR: one read, then one write of the whole byte (R261, R264, decision D9). -/
def modifyBit (d : Byte) (change : Byte → Byte) (s : State) : State :=
  let addr := ea (.dir d) s
  let operand := memRead s addr
  memWrite operand.2 addr (change operand.1)

/-- The byte with only bit n set (R260). -/
def bitMask (n : BitVec 3) : Byte := (1 : Byte) <<< n.toNat

/-- BRSET and BRCLR: C takes the tested bit, and the branch is taken when the bit is as wanted (R262, R263). -/
def branchOnBit (n : BitVec 3) (d r : Byte) (want : Bool) (s : State) : State :=
  let operand := memRead s (ea (.dir d) s)
  let b := operand.1.getLsbD n.toNat
  branchIf (b == want) r (operand.2.setCc { operand.2.cc with c := b })

end Sys2Proof.Machine
end

