-- ==== Sys2Proof/Machine/BitManipulation.lean ====
section
/-! DEFINITION. The bit manipulation instructions (spec/44_bit_manipulation.md): one definition per row of the opcode table, each over the shared
operations. The PC already holds the address of the next instruction (R26, R101). -/

namespace Sys2Proof.Machine

/-- `BRSET` bit test and branch, $00 + 2n (R263). -/
def execBrset (n : BitVec 3) (d : Byte) (r : Byte) (s : State) : Host.Outcome State Fault Refusal :=
  .next (branchOnBit n d r true s)

/-- `BRCLR` bit test and branch, $01 + 2n (R262). -/
def execBrclr (n : BitVec 3) (d : Byte) (r : Byte) (s : State) : Host.Outcome State Fault Refusal :=
  .next (branchOnBit n d r false s)

/-- `BSET` bit set/clear, $10 + 2n (R264). -/
def execBset (n : BitVec 3) (d : Byte) (s : State) : Host.Outcome State Fault Refusal :=
  .next (modifyBit d (fun v => v ||| bitMask n) s)

/-- `BCLR` bit set/clear, $11 + 2n (R261). -/
def execBclr (n : BitVec 3) (d : Byte) (s : State) : Host.Outcome State Fault Refusal :=
  .next (modifyBit d (fun v => v &&& ~~~(bitMask n)) s)

end Sys2Proof.Machine
end

