-- ==== Sys2Proof/Machine/Branch.lean ====
section
/-! DEFINITION. The branch instructions (spec/43_branch.md): one definition per row of the opcode table, each over the shared
operations. The PC already holds the address of the next instruction (R26, R101). -/

namespace Sys2Proof.Machine

/-- `BRA` relative, $20 (R247). -/
def execBra (r : Byte) (s : State) : Host.Outcome State Fault Refusal :=
  .next (branchIf true r s)

/-- `BRN` relative, $21 (R248). -/
def execBrn (r : Byte) (s : State) : Host.Outcome State Fault Refusal :=
  .next (branchIf false r s)

/-- `BHI` relative, $22 (R236). -/
def execBhi (r : Byte) (s : State) : Host.Outcome State Fault Refusal :=
  .next (branchIf (higher s.cc) r s)

/-- `BLS` relative, $23 (R241). -/
def execBls (r : Byte) (s : State) : Host.Outcome State Fault Refusal :=
  .next (branchIf (!higher s.cc) r s)

/-- `BCC` relative, $24 (R231). -/
def execBcc (r : Byte) (s : State) : Host.Outcome State Fault Refusal :=
  .next (branchIf (!s.cc.c) r s)

/-- `BCS` relative, $25 (R232). -/
def execBcs (r : Byte) (s : State) : Host.Outcome State Fault Refusal :=
  .next (branchIf s.cc.c r s)

/-- `BNE` relative, $26 (R245). -/
def execBne (r : Byte) (s : State) : Host.Outcome State Fault Refusal :=
  .next (branchIf (!s.cc.z) r s)

/-- `BEQ` relative, $27 (R233). -/
def execBeq (r : Byte) (s : State) : Host.Outcome State Fault Refusal :=
  .next (branchIf s.cc.z r s)

/-- `BHCC` relative, $28 (R234). -/
def execBhcc (r : Byte) (s : State) : Host.Outcome State Fault Refusal :=
  .next (branchIf (!s.cc.h) r s)

/-- `BHCS` relative, $29 (R235). -/
def execBhcs (r : Byte) (s : State) : Host.Outcome State Fault Refusal :=
  .next (branchIf s.cc.h r s)

/-- `BPL` relative, $2A (R246). -/
def execBpl (r : Byte) (s : State) : Host.Outcome State Fault Refusal :=
  .next (branchIf (!s.cc.n) r s)

/-- `BMI` relative, $2B (R243). -/
def execBmi (r : Byte) (s : State) : Host.Outcome State Fault Refusal :=
  .next (branchIf s.cc.n r s)

/-- `BMC` relative, $2C (R242). -/
def execBmc (r : Byte) (s : State) : Host.Outcome State Fault Refusal :=
  .next (branchIf (!s.cc.i) r s)

/-- `BMS` relative, $2D (R244). -/
def execBms (r : Byte) (s : State) : Host.Outcome State Fault Refusal :=
  .next (branchIf s.cc.i r s)

/-- `BIL` relative, $2E (R239). -/
def execBil (r : Byte) (s : State) : Host.Outcome State Fault Refusal :=
  .next (branchIf (!s.intPin) r s)

/-- `BIH` relative, $2F (R238). -/
def execBih (r : Byte) (s : State) : Host.Outcome State Fault Refusal :=
  .next (branchIf s.intPin r s)

/-- `BHS` relative, $24, another name of `BCC` (R102) (R231). -/
def execBhs (r : Byte) (s : State) : Host.Outcome State Fault Refusal :=
  .next (branchIf (!s.cc.c) r s)

/-- `BLO` relative, $25, another name of `BCS` (R102) (R232). -/
def execBlo (r : Byte) (s : State) : Host.Outcome State Fault Refusal :=
  .next (branchIf s.cc.c r s)

/-- `BSR` relative, $AD (R249). -/
def execBsr (r : Byte) (s : State) : Host.Outcome State Fault Refusal :=
  .next (callTo (relTarget r s) s)

end Sys2Proof.Machine
end

