-- ==== Sys2Proof/Machine/Control.lean ====
section
/-! DEFINITION. The control instructions (spec/45_control.md): one definition per row of the opcode table, each over the shared
operations. The PC already holds the address of the next instruction (R26, R101). -/

namespace Sys2Proof.Machine

/-- `RTI` inherent, $80 (R275). -/
def execRti (s : State) : Host.Outcome State Fault Refusal :=
  .next (returnFromException s)

/-- `RTS` inherent, $81 (R276). -/
def execRts (s : State) : Host.Outcome State Fault Refusal :=
  .next (pullPc s)

/-- `SWI` inherent, $83 (R280). -/
def execSwi (s : State) : Host.Outcome State Fault Refusal :=
  .next (takeException (vecSwi s.cfg) s)

/-- `STOP` inherent, $8E (R279). -/
def execStop (s : State) : Host.Outcome State Fault Refusal :=
  match s.cfg.family with
  | .hmos => .fault (.undefinedOpcode 0x8E)
  | .cmos => .next (((s.setCc { s.cc with i := false }).setTimer (timerStopEffects s.timer)).setRunState .stopped)

/-- `WAIT` inherent, $8F (R283). -/
def execWait (s : State) : Host.Outcome State Fault Refusal :=
  match s.cfg.family with
  | .hmos => .fault (.undefinedOpcode 0x8F)
  | .cmos => .next ((s.setCc { s.cc with i := false }).setRunState .waiting)

/-- `TAX` inherent, $97 (R281). -/
def execTax (s : State) : Host.Outcome State Fault Refusal :=
  .next (s.setX s.a)

/-- `CLC` inherent, $98 (R271). -/
def execClc (s : State) : Host.Outcome State Fault Refusal :=
  .next (s.setCc { s.cc with c := false })

/-- `SEC` inherent, $99 (R277). -/
def execSec (s : State) : Host.Outcome State Fault Refusal :=
  .next (s.setCc { s.cc with c := true })

/-- `CLI` inherent, $9A (R272). -/
def execCli (s : State) : Host.Outcome State Fault Refusal :=
  .next (s.setCc { s.cc with i := false })

/-- `SEI` inherent, $9B (R278). -/
def execSei (s : State) : Host.Outcome State Fault Refusal :=
  .next (s.setCc { s.cc with i := true })

/-- `RSP` inherent, $9C (R274). -/
def execRsp (s : State) : Host.Outcome State Fault Refusal :=
  .next (s.setSp stackTop)

/-- `NOP` inherent, $9D (R273). -/
def execNop (s : State) : Host.Outcome State Fault Refusal :=
  .next s

/-- `TXA` inherent, $9F (R282). -/
def execTxa (s : State) : Host.Outcome State Fault Refusal :=
  .next (s.setA s.x)

end Sys2Proof.Machine
end

