-- ==== Sys2Proof/Machine/ReadModifyWrite.lean ====
section
/-! DEFINITION. The read/modify/write instructions (spec/42_read_modify_write.md): one definition per row of the opcode table, each over the shared
operations. The PC already holds the address of the next instruction (R26, R101). -/

namespace Sys2Proof.Machine

/-- `NEG` direct, $30 (R210). -/
def execNegDir (d : Byte) (s : State) : Host.Outcome State Fault Refusal :=
  .next (rmwMem (.dir d) negOp s)

/-- `NEGA` inherent, $40 (R210). -/
def execNega (s : State) : Host.Outcome State Fault Refusal :=
  .next (rmwA negOp s)

/-- `NEGX` inherent, $50 (R210). -/
def execNegx (s : State) : Host.Outcome State Fault Refusal :=
  .next (rmwX negOp s)

/-- `NEG` indexed, 8-bit offset, $60 (R210). -/
def execNegIx1 (o : Byte) (s : State) : Host.Outcome State Fault Refusal :=
  .next (rmwMem (.ix1 o) negOp s)

/-- `NEG` indexed, no offset, $70 (R210). -/
def execNegIx (s : State) : Host.Outcome State Fault Refusal :=
  .next (rmwMem .ix negOp s)

/-- `COM` direct, $33 (R205). -/
def execComDir (d : Byte) (s : State) : Host.Outcome State Fault Refusal :=
  .next (rmwMem (.dir d) comOp s)

/-- `COMA` inherent, $43 (R205). -/
def execComa (s : State) : Host.Outcome State Fault Refusal :=
  .next (rmwA comOp s)

/-- `COMX` inherent, $53 (R205). -/
def execComx (s : State) : Host.Outcome State Fault Refusal :=
  .next (rmwX comOp s)

/-- `COM` indexed, 8-bit offset, $63 (R205). -/
def execComIx1 (o : Byte) (s : State) : Host.Outcome State Fault Refusal :=
  .next (rmwMem (.ix1 o) comOp s)

/-- `COM` indexed, no offset, $73 (R205). -/
def execComIx (s : State) : Host.Outcome State Fault Refusal :=
  .next (rmwMem .ix comOp s)

/-- `LSR` direct, $34 (R209). -/
def execLsrDir (d : Byte) (s : State) : Host.Outcome State Fault Refusal :=
  .next (rmwMem (.dir d) lsrOp s)

/-- `LSRA` inherent, $44 (R209). -/
def execLsra (s : State) : Host.Outcome State Fault Refusal :=
  .next (rmwA lsrOp s)

/-- `LSRX` inherent, $54 (R209). -/
def execLsrx (s : State) : Host.Outcome State Fault Refusal :=
  .next (rmwX lsrOp s)

/-- `LSR` indexed, 8-bit offset, $64 (R209). -/
def execLsrIx1 (o : Byte) (s : State) : Host.Outcome State Fault Refusal :=
  .next (rmwMem (.ix1 o) lsrOp s)

/-- `LSR` indexed, no offset, $74 (R209). -/
def execLsrIx (s : State) : Host.Outcome State Fault Refusal :=
  .next (rmwMem .ix lsrOp s)

/-- `ROR` direct, $36 (R212). -/
def execRorDir (d : Byte) (s : State) : Host.Outcome State Fault Refusal :=
  .next (rmwMem (.dir d) rorOp s)

/-- `RORA` inherent, $46 (R212). -/
def execRora (s : State) : Host.Outcome State Fault Refusal :=
  .next (rmwA rorOp s)

/-- `RORX` inherent, $56 (R212). -/
def execRorx (s : State) : Host.Outcome State Fault Refusal :=
  .next (rmwX rorOp s)

/-- `ROR` indexed, 8-bit offset, $66 (R212). -/
def execRorIx1 (o : Byte) (s : State) : Host.Outcome State Fault Refusal :=
  .next (rmwMem (.ix1 o) rorOp s)

/-- `ROR` indexed, no offset, $76 (R212). -/
def execRorIx (s : State) : Host.Outcome State Fault Refusal :=
  .next (rmwMem .ix rorOp s)

/-- `ASR` direct, $37 (R203). -/
def execAsrDir (d : Byte) (s : State) : Host.Outcome State Fault Refusal :=
  .next (rmwMem (.dir d) asrOp s)

/-- `ASRA` inherent, $47 (R203). -/
def execAsra (s : State) : Host.Outcome State Fault Refusal :=
  .next (rmwA asrOp s)

/-- `ASRX` inherent, $57 (R203). -/
def execAsrx (s : State) : Host.Outcome State Fault Refusal :=
  .next (rmwX asrOp s)

/-- `ASR` indexed, 8-bit offset, $67 (R203). -/
def execAsrIx1 (o : Byte) (s : State) : Host.Outcome State Fault Refusal :=
  .next (rmwMem (.ix1 o) asrOp s)

/-- `ASR` indexed, no offset, $77 (R203). -/
def execAsrIx (s : State) : Host.Outcome State Fault Refusal :=
  .next (rmwMem .ix asrOp s)

/-- `LSL` direct, $38 (R208). -/
def execLslDir (d : Byte) (s : State) : Host.Outcome State Fault Refusal :=
  .next (rmwMem (.dir d) lslOp s)

/-- `ASL` direct, $38, another name of `LSL` (R102) (R208). -/
def execAslDir (d : Byte) (s : State) : Host.Outcome State Fault Refusal :=
  .next (rmwMem (.dir d) lslOp s)

/-- `LSLA` inherent, $48 (R208). -/
def execLsla (s : State) : Host.Outcome State Fault Refusal :=
  .next (rmwA lslOp s)

/-- `ASLA` inherent, $48, another name of `LSLA` (R102) (R208). -/
def execAsla (s : State) : Host.Outcome State Fault Refusal :=
  .next (rmwA lslOp s)

/-- `LSLX` inherent, $58 (R208). -/
def execLslx (s : State) : Host.Outcome State Fault Refusal :=
  .next (rmwX lslOp s)

/-- `ASLX` inherent, $58, another name of `LSLX` (R102) (R208). -/
def execAslx (s : State) : Host.Outcome State Fault Refusal :=
  .next (rmwX lslOp s)

/-- `LSL` indexed, 8-bit offset, $68 (R208). -/
def execLslIx1 (o : Byte) (s : State) : Host.Outcome State Fault Refusal :=
  .next (rmwMem (.ix1 o) lslOp s)

/-- `ASL` indexed, 8-bit offset, $68, another name of `LSL` (R102) (R208). -/
def execAslIx1 (o : Byte) (s : State) : Host.Outcome State Fault Refusal :=
  .next (rmwMem (.ix1 o) lslOp s)

/-- `LSL` indexed, no offset, $78 (R208). -/
def execLslIx (s : State) : Host.Outcome State Fault Refusal :=
  .next (rmwMem .ix lslOp s)

/-- `ASL` indexed, no offset, $78, another name of `LSL` (R102) (R208). -/
def execAslIx (s : State) : Host.Outcome State Fault Refusal :=
  .next (rmwMem .ix lslOp s)

/-- `ROL` direct, $39 (R211). -/
def execRolDir (d : Byte) (s : State) : Host.Outcome State Fault Refusal :=
  .next (rmwMem (.dir d) rolOp s)

/-- `ROLA` inherent, $49 (R211). -/
def execRola (s : State) : Host.Outcome State Fault Refusal :=
  .next (rmwA rolOp s)

/-- `ROLX` inherent, $59 (R211). -/
def execRolx (s : State) : Host.Outcome State Fault Refusal :=
  .next (rmwX rolOp s)

/-- `ROL` indexed, 8-bit offset, $69 (R211). -/
def execRolIx1 (o : Byte) (s : State) : Host.Outcome State Fault Refusal :=
  .next (rmwMem (.ix1 o) rolOp s)

/-- `ROL` indexed, no offset, $79 (R211). -/
def execRolIx (s : State) : Host.Outcome State Fault Refusal :=
  .next (rmwMem .ix rolOp s)

/-- `DEC` direct, $3A (R206). -/
def execDecDir (d : Byte) (s : State) : Host.Outcome State Fault Refusal :=
  .next (rmwMem (.dir d) decOp s)

/-- `DECA` inherent, $4A (R206). -/
def execDeca (s : State) : Host.Outcome State Fault Refusal :=
  .next (rmwA decOp s)

/-- `DECX` inherent, $5A (R206). -/
def execDecx (s : State) : Host.Outcome State Fault Refusal :=
  .next (rmwX decOp s)

/-- `DEC` indexed, 8-bit offset, $6A (R206). -/
def execDecIx1 (o : Byte) (s : State) : Host.Outcome State Fault Refusal :=
  .next (rmwMem (.ix1 o) decOp s)

/-- `DEC` indexed, no offset, $7A (R206). -/
def execDecIx (s : State) : Host.Outcome State Fault Refusal :=
  .next (rmwMem .ix decOp s)

/-- `INC` direct, $3C (R207). -/
def execIncDir (d : Byte) (s : State) : Host.Outcome State Fault Refusal :=
  .next (rmwMem (.dir d) incOp s)

/-- `INCA` inherent, $4C (R207). -/
def execInca (s : State) : Host.Outcome State Fault Refusal :=
  .next (rmwA incOp s)

/-- `INCX` inherent, $5C (R207). -/
def execIncx (s : State) : Host.Outcome State Fault Refusal :=
  .next (rmwX incOp s)

/-- `INC` indexed, 8-bit offset, $6C (R207). -/
def execIncIx1 (o : Byte) (s : State) : Host.Outcome State Fault Refusal :=
  .next (rmwMem (.ix1 o) incOp s)

/-- `INC` indexed, no offset, $7C (R207). -/
def execIncIx (s : State) : Host.Outcome State Fault Refusal :=
  .next (rmwMem .ix incOp s)

/-- `TST` direct, $3D (R213). -/
def execTstDir (d : Byte) (s : State) : Host.Outcome State Fault Refusal :=
  .next (withOperand (.dir d) tstFlags s)

/-- `TSTA` inherent, $4D (R213). -/
def execTsta (s : State) : Host.Outcome State Fault Refusal :=
  .next (tstFlags s.a s)

/-- `TSTX` inherent, $5D (R213). -/
def execTstx (s : State) : Host.Outcome State Fault Refusal :=
  .next (tstFlags s.x s)

/-- `TST` indexed, 8-bit offset, $6D (R213). -/
def execTstIx1 (o : Byte) (s : State) : Host.Outcome State Fault Refusal :=
  .next (withOperand (.ix1 o) tstFlags s)

/-- `TST` indexed, no offset, $7D (R213). -/
def execTstIx (s : State) : Host.Outcome State Fault Refusal :=
  .next (withOperand .ix tstFlags s)

/-- `CLR` direct, $3F (R204). -/
def execClrDir (d : Byte) (s : State) : Host.Outcome State Fault Refusal :=
  .next (rmwMem (.dir d) clrOp s)

/-- `CLRA` inherent, $4F (R204). -/
def execClra (s : State) : Host.Outcome State Fault Refusal :=
  .next (rmwA clrOp s)

/-- `CLRX` inherent, $5F (R204). -/
def execClrx (s : State) : Host.Outcome State Fault Refusal :=
  .next (rmwX clrOp s)

/-- `CLR` indexed, 8-bit offset, $6F (R204). -/
def execClrIx1 (o : Byte) (s : State) : Host.Outcome State Fault Refusal :=
  .next (rmwMem (.ix1 o) clrOp s)

/-- `CLR` indexed, no offset, $7F (R204). -/
def execClrIx (s : State) : Host.Outcome State Fault Refusal :=
  .next (rmwMem .ix clrOp s)

end Sys2Proof.Machine
end

