-- ==== Sys2Proof/Machine/RegisterMemory.lean ====
section
/-! DEFINITION. The register/memory instructions (spec/41_register_memory.md): one definition per row of the opcode table, each over the shared
operations. The PC already holds the address of the next instruction (R26, R101). -/

namespace Sys2Proof.Machine

/-- `SUB` immediate, $A0 (R186). -/
def execSubImm (v : Byte) (s : State) : Host.Outcome State Fault Refusal :=
  .next (onA subOp v s)

/-- `SUB` direct, $B0 (R186). -/
def execSubDir (d : Byte) (s : State) : Host.Outcome State Fault Refusal :=
  .next (withOperand (.dir d) (onA subOp) s)

/-- `SUB` extended, $C0 (R186). -/
def execSubExt (a : Addr) (s : State) : Host.Outcome State Fault Refusal :=
  .next (withOperand (.ext a) (onA subOp) s)

/-- `SUB` indexed, 16-bit offset, $D0 (R186). -/
def execSubIx2 (o : Addr) (s : State) : Host.Outcome State Fault Refusal :=
  .next (withOperand (.ix2 o) (onA subOp) s)

/-- `SUB` indexed, 8-bit offset, $E0 (R186). -/
def execSubIx1 (o : Byte) (s : State) : Host.Outcome State Fault Refusal :=
  .next (withOperand (.ix1 o) (onA subOp) s)

/-- `SUB` indexed, no offset, $F0 (R186). -/
def execSubIx (s : State) : Host.Outcome State Fault Refusal :=
  .next (withOperand .ix (onA subOp) s)

/-- `CMP` immediate, $A1 (R175). -/
def execCmpImm (v : Byte) (s : State) : Host.Outcome State Fault Refusal :=
  .next (testA subOp v s)

/-- `CMP` direct, $B1 (R175). -/
def execCmpDir (d : Byte) (s : State) : Host.Outcome State Fault Refusal :=
  .next (withOperand (.dir d) (testA subOp) s)

/-- `CMP` extended, $C1 (R175). -/
def execCmpExt (a : Addr) (s : State) : Host.Outcome State Fault Refusal :=
  .next (withOperand (.ext a) (testA subOp) s)

/-- `CMP` indexed, 16-bit offset, $D1 (R175). -/
def execCmpIx2 (o : Addr) (s : State) : Host.Outcome State Fault Refusal :=
  .next (withOperand (.ix2 o) (testA subOp) s)

/-- `CMP` indexed, 8-bit offset, $E1 (R175). -/
def execCmpIx1 (o : Byte) (s : State) : Host.Outcome State Fault Refusal :=
  .next (withOperand (.ix1 o) (testA subOp) s)

/-- `CMP` indexed, no offset, $F1 (R175). -/
def execCmpIx (s : State) : Host.Outcome State Fault Refusal :=
  .next (withOperand .ix (testA subOp) s)

/-- `SBC` immediate, $A2 (R183). -/
def execSbcImm (v : Byte) (s : State) : Host.Outcome State Fault Refusal :=
  .next (onA sbcOp v s)

/-- `SBC` direct, $B2 (R183). -/
def execSbcDir (d : Byte) (s : State) : Host.Outcome State Fault Refusal :=
  .next (withOperand (.dir d) (onA sbcOp) s)

/-- `SBC` extended, $C2 (R183). -/
def execSbcExt (a : Addr) (s : State) : Host.Outcome State Fault Refusal :=
  .next (withOperand (.ext a) (onA sbcOp) s)

/-- `SBC` indexed, 16-bit offset, $D2 (R183). -/
def execSbcIx2 (o : Addr) (s : State) : Host.Outcome State Fault Refusal :=
  .next (withOperand (.ix2 o) (onA sbcOp) s)

/-- `SBC` indexed, 8-bit offset, $E2 (R183). -/
def execSbcIx1 (o : Byte) (s : State) : Host.Outcome State Fault Refusal :=
  .next (withOperand (.ix1 o) (onA sbcOp) s)

/-- `SBC` indexed, no offset, $F2 (R183). -/
def execSbcIx (s : State) : Host.Outcome State Fault Refusal :=
  .next (withOperand .ix (onA sbcOp) s)

/-- `CPX` immediate, $A3 (R176). -/
def execCpxImm (v : Byte) (s : State) : Host.Outcome State Fault Refusal :=
  .next (testX subOp v s)

/-- `CPX` direct, $B3 (R176). -/
def execCpxDir (d : Byte) (s : State) : Host.Outcome State Fault Refusal :=
  .next (withOperand (.dir d) (testX subOp) s)

/-- `CPX` extended, $C3 (R176). -/
def execCpxExt (a : Addr) (s : State) : Host.Outcome State Fault Refusal :=
  .next (withOperand (.ext a) (testX subOp) s)

/-- `CPX` indexed, 16-bit offset, $D3 (R176). -/
def execCpxIx2 (o : Addr) (s : State) : Host.Outcome State Fault Refusal :=
  .next (withOperand (.ix2 o) (testX subOp) s)

/-- `CPX` indexed, 8-bit offset, $E3 (R176). -/
def execCpxIx1 (o : Byte) (s : State) : Host.Outcome State Fault Refusal :=
  .next (withOperand (.ix1 o) (testX subOp) s)

/-- `CPX` indexed, no offset, $F3 (R176). -/
def execCpxIx (s : State) : Host.Outcome State Fault Refusal :=
  .next (withOperand .ix (testX subOp) s)

/-- `AND` immediate, $A4 (R173). -/
def execAndImm (v : Byte) (s : State) : Host.Outcome State Fault Refusal :=
  .next (onA andOp v s)

/-- `AND` direct, $B4 (R173). -/
def execAndDir (d : Byte) (s : State) : Host.Outcome State Fault Refusal :=
  .next (withOperand (.dir d) (onA andOp) s)

/-- `AND` extended, $C4 (R173). -/
def execAndExt (a : Addr) (s : State) : Host.Outcome State Fault Refusal :=
  .next (withOperand (.ext a) (onA andOp) s)

/-- `AND` indexed, 16-bit offset, $D4 (R173). -/
def execAndIx2 (o : Addr) (s : State) : Host.Outcome State Fault Refusal :=
  .next (withOperand (.ix2 o) (onA andOp) s)

/-- `AND` indexed, 8-bit offset, $E4 (R173). -/
def execAndIx1 (o : Byte) (s : State) : Host.Outcome State Fault Refusal :=
  .next (withOperand (.ix1 o) (onA andOp) s)

/-- `AND` indexed, no offset, $F4 (R173). -/
def execAndIx (s : State) : Host.Outcome State Fault Refusal :=
  .next (withOperand .ix (onA andOp) s)

/-- `BIT` immediate, $A5 (R174). -/
def execBitImm (v : Byte) (s : State) : Host.Outcome State Fault Refusal :=
  .next (testA andOp v s)

/-- `BIT` direct, $B5 (R174). -/
def execBitDir (d : Byte) (s : State) : Host.Outcome State Fault Refusal :=
  .next (withOperand (.dir d) (testA andOp) s)

/-- `BIT` extended, $C5 (R174). -/
def execBitExt (a : Addr) (s : State) : Host.Outcome State Fault Refusal :=
  .next (withOperand (.ext a) (testA andOp) s)

/-- `BIT` indexed, 16-bit offset, $D5 (R174). -/
def execBitIx2 (o : Addr) (s : State) : Host.Outcome State Fault Refusal :=
  .next (withOperand (.ix2 o) (testA andOp) s)

/-- `BIT` indexed, 8-bit offset, $E5 (R174). -/
def execBitIx1 (o : Byte) (s : State) : Host.Outcome State Fault Refusal :=
  .next (withOperand (.ix1 o) (testA andOp) s)

/-- `BIT` indexed, no offset, $F5 (R174). -/
def execBitIx (s : State) : Host.Outcome State Fault Refusal :=
  .next (withOperand .ix (testA andOp) s)

/-- `LDA` immediate, $A6 (R180). -/
def execLdaImm (v : Byte) (s : State) : Host.Outcome State Fault Refusal :=
  .next (onA loadOp v s)

/-- `LDA` direct, $B6 (R180). -/
def execLdaDir (d : Byte) (s : State) : Host.Outcome State Fault Refusal :=
  .next (withOperand (.dir d) (onA loadOp) s)

/-- `LDA` extended, $C6 (R180). -/
def execLdaExt (a : Addr) (s : State) : Host.Outcome State Fault Refusal :=
  .next (withOperand (.ext a) (onA loadOp) s)

/-- `LDA` indexed, 16-bit offset, $D6 (R180). -/
def execLdaIx2 (o : Addr) (s : State) : Host.Outcome State Fault Refusal :=
  .next (withOperand (.ix2 o) (onA loadOp) s)

/-- `LDA` indexed, 8-bit offset, $E6 (R180). -/
def execLdaIx1 (o : Byte) (s : State) : Host.Outcome State Fault Refusal :=
  .next (withOperand (.ix1 o) (onA loadOp) s)

/-- `LDA` indexed, no offset, $F6 (R180). -/
def execLdaIx (s : State) : Host.Outcome State Fault Refusal :=
  .next (withOperand .ix (onA loadOp) s)

/-- `STA` direct, $B7 (R184). -/
def execStaDir (d : Byte) (s : State) : Host.Outcome State Fault Refusal :=
  .next (storeByte (.dir d) s.a s)

/-- `STA` extended, $C7 (R184). -/
def execStaExt (a : Addr) (s : State) : Host.Outcome State Fault Refusal :=
  .next (storeByte (.ext a) s.a s)

/-- `STA` indexed, 16-bit offset, $D7 (R184). -/
def execStaIx2 (o : Addr) (s : State) : Host.Outcome State Fault Refusal :=
  .next (storeByte (.ix2 o) s.a s)

/-- `STA` indexed, 8-bit offset, $E7 (R184). -/
def execStaIx1 (o : Byte) (s : State) : Host.Outcome State Fault Refusal :=
  .next (storeByte (.ix1 o) s.a s)

/-- `STA` indexed, no offset, $F7 (R184). -/
def execStaIx (s : State) : Host.Outcome State Fault Refusal :=
  .next (storeByte .ix s.a s)

/-- `EOR` immediate, $A8 (R177). -/
def execEorImm (v : Byte) (s : State) : Host.Outcome State Fault Refusal :=
  .next (onA eorOp v s)

/-- `EOR` direct, $B8 (R177). -/
def execEorDir (d : Byte) (s : State) : Host.Outcome State Fault Refusal :=
  .next (withOperand (.dir d) (onA eorOp) s)

/-- `EOR` extended, $C8 (R177). -/
def execEorExt (a : Addr) (s : State) : Host.Outcome State Fault Refusal :=
  .next (withOperand (.ext a) (onA eorOp) s)

/-- `EOR` indexed, 16-bit offset, $D8 (R177). -/
def execEorIx2 (o : Addr) (s : State) : Host.Outcome State Fault Refusal :=
  .next (withOperand (.ix2 o) (onA eorOp) s)

/-- `EOR` indexed, 8-bit offset, $E8 (R177). -/
def execEorIx1 (o : Byte) (s : State) : Host.Outcome State Fault Refusal :=
  .next (withOperand (.ix1 o) (onA eorOp) s)

/-- `EOR` indexed, no offset, $F8 (R177). -/
def execEorIx (s : State) : Host.Outcome State Fault Refusal :=
  .next (withOperand .ix (onA eorOp) s)

/-- `ADC` immediate, $A9 (R171). -/
def execAdcImm (v : Byte) (s : State) : Host.Outcome State Fault Refusal :=
  .next (onA adcOp v s)

/-- `ADC` direct, $B9 (R171). -/
def execAdcDir (d : Byte) (s : State) : Host.Outcome State Fault Refusal :=
  .next (withOperand (.dir d) (onA adcOp) s)

/-- `ADC` extended, $C9 (R171). -/
def execAdcExt (a : Addr) (s : State) : Host.Outcome State Fault Refusal :=
  .next (withOperand (.ext a) (onA adcOp) s)

/-- `ADC` indexed, 16-bit offset, $D9 (R171). -/
def execAdcIx2 (o : Addr) (s : State) : Host.Outcome State Fault Refusal :=
  .next (withOperand (.ix2 o) (onA adcOp) s)

/-- `ADC` indexed, 8-bit offset, $E9 (R171). -/
def execAdcIx1 (o : Byte) (s : State) : Host.Outcome State Fault Refusal :=
  .next (withOperand (.ix1 o) (onA adcOp) s)

/-- `ADC` indexed, no offset, $F9 (R171). -/
def execAdcIx (s : State) : Host.Outcome State Fault Refusal :=
  .next (withOperand .ix (onA adcOp) s)

/-- `ORA` immediate, $AA (R182). -/
def execOraImm (v : Byte) (s : State) : Host.Outcome State Fault Refusal :=
  .next (onA oraOp v s)

/-- `ORA` direct, $BA (R182). -/
def execOraDir (d : Byte) (s : State) : Host.Outcome State Fault Refusal :=
  .next (withOperand (.dir d) (onA oraOp) s)

/-- `ORA` extended, $CA (R182). -/
def execOraExt (a : Addr) (s : State) : Host.Outcome State Fault Refusal :=
  .next (withOperand (.ext a) (onA oraOp) s)

/-- `ORA` indexed, 16-bit offset, $DA (R182). -/
def execOraIx2 (o : Addr) (s : State) : Host.Outcome State Fault Refusal :=
  .next (withOperand (.ix2 o) (onA oraOp) s)

/-- `ORA` indexed, 8-bit offset, $EA (R182). -/
def execOraIx1 (o : Byte) (s : State) : Host.Outcome State Fault Refusal :=
  .next (withOperand (.ix1 o) (onA oraOp) s)

/-- `ORA` indexed, no offset, $FA (R182). -/
def execOraIx (s : State) : Host.Outcome State Fault Refusal :=
  .next (withOperand .ix (onA oraOp) s)

/-- `ADD` immediate, $AB (R172). -/
def execAddImm (v : Byte) (s : State) : Host.Outcome State Fault Refusal :=
  .next (onA addOp v s)

/-- `ADD` direct, $BB (R172). -/
def execAddDir (d : Byte) (s : State) : Host.Outcome State Fault Refusal :=
  .next (withOperand (.dir d) (onA addOp) s)

/-- `ADD` extended, $CB (R172). -/
def execAddExt (a : Addr) (s : State) : Host.Outcome State Fault Refusal :=
  .next (withOperand (.ext a) (onA addOp) s)

/-- `ADD` indexed, 16-bit offset, $DB (R172). -/
def execAddIx2 (o : Addr) (s : State) : Host.Outcome State Fault Refusal :=
  .next (withOperand (.ix2 o) (onA addOp) s)

/-- `ADD` indexed, 8-bit offset, $EB (R172). -/
def execAddIx1 (o : Byte) (s : State) : Host.Outcome State Fault Refusal :=
  .next (withOperand (.ix1 o) (onA addOp) s)

/-- `ADD` indexed, no offset, $FB (R172). -/
def execAddIx (s : State) : Host.Outcome State Fault Refusal :=
  .next (withOperand .ix (onA addOp) s)

/-- `JMP` direct, $BC (R178). -/
def execJmpDir (d : Byte) (s : State) : Host.Outcome State Fault Refusal :=
  .next (s.setPc (ea (.dir d) s))

/-- `JMP` extended, $CC (R178). -/
def execJmpExt (a : Addr) (s : State) : Host.Outcome State Fault Refusal :=
  .next (s.setPc (ea (.ext a) s))

/-- `JMP` indexed, 16-bit offset, $DC (R178). -/
def execJmpIx2 (o : Addr) (s : State) : Host.Outcome State Fault Refusal :=
  .next (s.setPc (ea (.ix2 o) s))

/-- `JMP` indexed, 8-bit offset, $EC (R178). -/
def execJmpIx1 (o : Byte) (s : State) : Host.Outcome State Fault Refusal :=
  .next (s.setPc (ea (.ix1 o) s))

/-- `JMP` indexed, no offset, $FC (R178). -/
def execJmpIx (s : State) : Host.Outcome State Fault Refusal :=
  .next (s.setPc (ea .ix s))

/-- `JSR` direct, $BD (R179). -/
def execJsrDir (d : Byte) (s : State) : Host.Outcome State Fault Refusal :=
  .next (callTo (ea (.dir d) s) s)

/-- `JSR` extended, $CD (R179). -/
def execJsrExt (a : Addr) (s : State) : Host.Outcome State Fault Refusal :=
  .next (callTo (ea (.ext a) s) s)

/-- `JSR` indexed, 16-bit offset, $DD (R179). -/
def execJsrIx2 (o : Addr) (s : State) : Host.Outcome State Fault Refusal :=
  .next (callTo (ea (.ix2 o) s) s)

/-- `JSR` indexed, 8-bit offset, $ED (R179). -/
def execJsrIx1 (o : Byte) (s : State) : Host.Outcome State Fault Refusal :=
  .next (callTo (ea (.ix1 o) s) s)

/-- `JSR` indexed, no offset, $FD (R179). -/
def execJsrIx (s : State) : Host.Outcome State Fault Refusal :=
  .next (callTo (ea .ix s) s)

/-- `LDX` immediate, $AE (R181). -/
def execLdxImm (v : Byte) (s : State) : Host.Outcome State Fault Refusal :=
  .next (onX loadOp v s)

/-- `LDX` direct, $BE (R181). -/
def execLdxDir (d : Byte) (s : State) : Host.Outcome State Fault Refusal :=
  .next (withOperand (.dir d) (onX loadOp) s)

/-- `LDX` extended, $CE (R181). -/
def execLdxExt (a : Addr) (s : State) : Host.Outcome State Fault Refusal :=
  .next (withOperand (.ext a) (onX loadOp) s)

/-- `LDX` indexed, 16-bit offset, $DE (R181). -/
def execLdxIx2 (o : Addr) (s : State) : Host.Outcome State Fault Refusal :=
  .next (withOperand (.ix2 o) (onX loadOp) s)

/-- `LDX` indexed, 8-bit offset, $EE (R181). -/
def execLdxIx1 (o : Byte) (s : State) : Host.Outcome State Fault Refusal :=
  .next (withOperand (.ix1 o) (onX loadOp) s)

/-- `LDX` indexed, no offset, $FE (R181). -/
def execLdxIx (s : State) : Host.Outcome State Fault Refusal :=
  .next (withOperand .ix (onX loadOp) s)

/-- `STX` direct, $BF (R185). -/
def execStxDir (d : Byte) (s : State) : Host.Outcome State Fault Refusal :=
  .next (storeByte (.dir d) s.x s)

/-- `STX` extended, $CF (R185). -/
def execStxExt (a : Addr) (s : State) : Host.Outcome State Fault Refusal :=
  .next (storeByte (.ext a) s.x s)

/-- `STX` indexed, 16-bit offset, $DF (R185). -/
def execStxIx2 (o : Addr) (s : State) : Host.Outcome State Fault Refusal :=
  .next (storeByte (.ix2 o) s.x s)

/-- `STX` indexed, 8-bit offset, $EF (R185). -/
def execStxIx1 (o : Byte) (s : State) : Host.Outcome State Fault Refusal :=
  .next (storeByte (.ix1 o) s.x s)

/-- `STX` indexed, no offset, $FF (R185). -/
def execStxIx (s : State) : Host.Outcome State Fault Refusal :=
  .next (storeByte .ix s.x s)

end Sys2Proof.Machine
end

