-- ==== Sys2Proof/Machine/Dispatch.lean ====
section
/-! DEFINITION. exec: one arm per constructor of Instr, each one direct call of its meaning. -/

namespace Sys2Proof.Machine

def exec (i : Instr) (s : State) : Host.Outcome State Fault Refusal :=
  match i with
  | .brset n d r => Sys2Proof.Machine.execBrset n d r s
  | .brclr n d r => Sys2Proof.Machine.execBrclr n d r s
  | .bset n d => Sys2Proof.Machine.execBset n d s
  | .bclr n d => Sys2Proof.Machine.execBclr n d s
  | .bra r => Sys2Proof.Machine.execBra r s
  | .brn r => Sys2Proof.Machine.execBrn r s
  | .bhi r => Sys2Proof.Machine.execBhi r s
  | .bls r => Sys2Proof.Machine.execBls r s
  | .bcc r => Sys2Proof.Machine.execBcc r s
  | .bcs r => Sys2Proof.Machine.execBcs r s
  | .bne r => Sys2Proof.Machine.execBne r s
  | .beq r => Sys2Proof.Machine.execBeq r s
  | .bhcc r => Sys2Proof.Machine.execBhcc r s
  | .bhcs r => Sys2Proof.Machine.execBhcs r s
  | .bpl r => Sys2Proof.Machine.execBpl r s
  | .bmi r => Sys2Proof.Machine.execBmi r s
  | .bmc r => Sys2Proof.Machine.execBmc r s
  | .bms r => Sys2Proof.Machine.execBms r s
  | .bil r => Sys2Proof.Machine.execBil r s
  | .bih r => Sys2Proof.Machine.execBih r s
  | .bhs r => Sys2Proof.Machine.execBhs r s
  | .blo r => Sys2Proof.Machine.execBlo r s
  | .bsr r => Sys2Proof.Machine.execBsr r s
  | .negDir d => Sys2Proof.Machine.execNegDir d s
  | .nega => Sys2Proof.Machine.execNega s
  | .negx => Sys2Proof.Machine.execNegx s
  | .negIx1 o => Sys2Proof.Machine.execNegIx1 o s
  | .negIx => Sys2Proof.Machine.execNegIx s
  | .comDir d => Sys2Proof.Machine.execComDir d s
  | .coma => Sys2Proof.Machine.execComa s
  | .comx => Sys2Proof.Machine.execComx s
  | .comIx1 o => Sys2Proof.Machine.execComIx1 o s
  | .comIx => Sys2Proof.Machine.execComIx s
  | .lsrDir d => Sys2Proof.Machine.execLsrDir d s
  | .lsra => Sys2Proof.Machine.execLsra s
  | .lsrx => Sys2Proof.Machine.execLsrx s
  | .lsrIx1 o => Sys2Proof.Machine.execLsrIx1 o s
  | .lsrIx => Sys2Proof.Machine.execLsrIx s
  | .rorDir d => Sys2Proof.Machine.execRorDir d s
  | .rora => Sys2Proof.Machine.execRora s
  | .rorx => Sys2Proof.Machine.execRorx s
  | .rorIx1 o => Sys2Proof.Machine.execRorIx1 o s
  | .rorIx => Sys2Proof.Machine.execRorIx s
  | .asrDir d => Sys2Proof.Machine.execAsrDir d s
  | .asra => Sys2Proof.Machine.execAsra s
  | .asrx => Sys2Proof.Machine.execAsrx s
  | .asrIx1 o => Sys2Proof.Machine.execAsrIx1 o s
  | .asrIx => Sys2Proof.Machine.execAsrIx s
  | .lslDir d => Sys2Proof.Machine.execLslDir d s
  | .aslDir d => Sys2Proof.Machine.execAslDir d s
  | .lsla => Sys2Proof.Machine.execLsla s
  | .asla => Sys2Proof.Machine.execAsla s
  | .lslx => Sys2Proof.Machine.execLslx s
  | .aslx => Sys2Proof.Machine.execAslx s
  | .lslIx1 o => Sys2Proof.Machine.execLslIx1 o s
  | .aslIx1 o => Sys2Proof.Machine.execAslIx1 o s
  | .lslIx => Sys2Proof.Machine.execLslIx s
  | .aslIx => Sys2Proof.Machine.execAslIx s
  | .rolDir d => Sys2Proof.Machine.execRolDir d s
  | .rola => Sys2Proof.Machine.execRola s
  | .rolx => Sys2Proof.Machine.execRolx s
  | .rolIx1 o => Sys2Proof.Machine.execRolIx1 o s
  | .rolIx => Sys2Proof.Machine.execRolIx s
  | .decDir d => Sys2Proof.Machine.execDecDir d s
  | .deca => Sys2Proof.Machine.execDeca s
  | .decx => Sys2Proof.Machine.execDecx s
  | .decIx1 o => Sys2Proof.Machine.execDecIx1 o s
  | .decIx => Sys2Proof.Machine.execDecIx s
  | .incDir d => Sys2Proof.Machine.execIncDir d s
  | .inca => Sys2Proof.Machine.execInca s
  | .incx => Sys2Proof.Machine.execIncx s
  | .incIx1 o => Sys2Proof.Machine.execIncIx1 o s
  | .incIx => Sys2Proof.Machine.execIncIx s
  | .tstDir d => Sys2Proof.Machine.execTstDir d s
  | .tsta => Sys2Proof.Machine.execTsta s
  | .tstx => Sys2Proof.Machine.execTstx s
  | .tstIx1 o => Sys2Proof.Machine.execTstIx1 o s
  | .tstIx => Sys2Proof.Machine.execTstIx s
  | .clrDir d => Sys2Proof.Machine.execClrDir d s
  | .clra => Sys2Proof.Machine.execClra s
  | .clrx => Sys2Proof.Machine.execClrx s
  | .clrIx1 o => Sys2Proof.Machine.execClrIx1 o s
  | .clrIx => Sys2Proof.Machine.execClrIx s
  | .rti => Sys2Proof.Machine.execRti s
  | .rts => Sys2Proof.Machine.execRts s
  | .swi => Sys2Proof.Machine.execSwi s
  | .stop => Sys2Proof.Machine.execStop s
  | .wait => Sys2Proof.Machine.execWait s
  | .tax => Sys2Proof.Machine.execTax s
  | .clc => Sys2Proof.Machine.execClc s
  | .sec => Sys2Proof.Machine.execSec s
  | .cli => Sys2Proof.Machine.execCli s
  | .sei => Sys2Proof.Machine.execSei s
  | .rsp => Sys2Proof.Machine.execRsp s
  | .nop => Sys2Proof.Machine.execNop s
  | .txa => Sys2Proof.Machine.execTxa s
  | .subImm v => Sys2Proof.Machine.execSubImm v s
  | .subDir d => Sys2Proof.Machine.execSubDir d s
  | .subExt a => Sys2Proof.Machine.execSubExt a s
  | .subIx2 o => Sys2Proof.Machine.execSubIx2 o s
  | .subIx1 o => Sys2Proof.Machine.execSubIx1 o s
  | .subIx => Sys2Proof.Machine.execSubIx s
  | .cmpImm v => Sys2Proof.Machine.execCmpImm v s
  | .cmpDir d => Sys2Proof.Machine.execCmpDir d s
  | .cmpExt a => Sys2Proof.Machine.execCmpExt a s
  | .cmpIx2 o => Sys2Proof.Machine.execCmpIx2 o s
  | .cmpIx1 o => Sys2Proof.Machine.execCmpIx1 o s
  | .cmpIx => Sys2Proof.Machine.execCmpIx s
  | .sbcImm v => Sys2Proof.Machine.execSbcImm v s
  | .sbcDir d => Sys2Proof.Machine.execSbcDir d s
  | .sbcExt a => Sys2Proof.Machine.execSbcExt a s
  | .sbcIx2 o => Sys2Proof.Machine.execSbcIx2 o s
  | .sbcIx1 o => Sys2Proof.Machine.execSbcIx1 o s
  | .sbcIx => Sys2Proof.Machine.execSbcIx s
  | .cpxImm v => Sys2Proof.Machine.execCpxImm v s
  | .cpxDir d => Sys2Proof.Machine.execCpxDir d s
  | .cpxExt a => Sys2Proof.Machine.execCpxExt a s
  | .cpxIx2 o => Sys2Proof.Machine.execCpxIx2 o s
  | .cpxIx1 o => Sys2Proof.Machine.execCpxIx1 o s
  | .cpxIx => Sys2Proof.Machine.execCpxIx s
  | .andImm v => Sys2Proof.Machine.execAndImm v s
  | .andDir d => Sys2Proof.Machine.execAndDir d s
  | .andExt a => Sys2Proof.Machine.execAndExt a s
  | .andIx2 o => Sys2Proof.Machine.execAndIx2 o s
  | .andIx1 o => Sys2Proof.Machine.execAndIx1 o s
  | .andIx => Sys2Proof.Machine.execAndIx s
  | .bitImm v => Sys2Proof.Machine.execBitImm v s
  | .bitDir d => Sys2Proof.Machine.execBitDir d s
  | .bitExt a => Sys2Proof.Machine.execBitExt a s
  | .bitIx2 o => Sys2Proof.Machine.execBitIx2 o s
  | .bitIx1 o => Sys2Proof.Machine.execBitIx1 o s
  | .bitIx => Sys2Proof.Machine.execBitIx s
  | .ldaImm v => Sys2Proof.Machine.execLdaImm v s
  | .ldaDir d => Sys2Proof.Machine.execLdaDir d s
  | .ldaExt a => Sys2Proof.Machine.execLdaExt a s
  | .ldaIx2 o => Sys2Proof.Machine.execLdaIx2 o s
  | .ldaIx1 o => Sys2Proof.Machine.execLdaIx1 o s
  | .ldaIx => Sys2Proof.Machine.execLdaIx s
  | .staDir d => Sys2Proof.Machine.execStaDir d s
  | .staExt a => Sys2Proof.Machine.execStaExt a s
  | .staIx2 o => Sys2Proof.Machine.execStaIx2 o s
  | .staIx1 o => Sys2Proof.Machine.execStaIx1 o s
  | .staIx => Sys2Proof.Machine.execStaIx s
  | .eorImm v => Sys2Proof.Machine.execEorImm v s
  | .eorDir d => Sys2Proof.Machine.execEorDir d s
  | .eorExt a => Sys2Proof.Machine.execEorExt a s
  | .eorIx2 o => Sys2Proof.Machine.execEorIx2 o s
  | .eorIx1 o => Sys2Proof.Machine.execEorIx1 o s
  | .eorIx => Sys2Proof.Machine.execEorIx s
  | .adcImm v => Sys2Proof.Machine.execAdcImm v s
  | .adcDir d => Sys2Proof.Machine.execAdcDir d s
  | .adcExt a => Sys2Proof.Machine.execAdcExt a s
  | .adcIx2 o => Sys2Proof.Machine.execAdcIx2 o s
  | .adcIx1 o => Sys2Proof.Machine.execAdcIx1 o s
  | .adcIx => Sys2Proof.Machine.execAdcIx s
  | .oraImm v => Sys2Proof.Machine.execOraImm v s
  | .oraDir d => Sys2Proof.Machine.execOraDir d s
  | .oraExt a => Sys2Proof.Machine.execOraExt a s
  | .oraIx2 o => Sys2Proof.Machine.execOraIx2 o s
  | .oraIx1 o => Sys2Proof.Machine.execOraIx1 o s
  | .oraIx => Sys2Proof.Machine.execOraIx s
  | .addImm v => Sys2Proof.Machine.execAddImm v s
  | .addDir d => Sys2Proof.Machine.execAddDir d s
  | .addExt a => Sys2Proof.Machine.execAddExt a s
  | .addIx2 o => Sys2Proof.Machine.execAddIx2 o s
  | .addIx1 o => Sys2Proof.Machine.execAddIx1 o s
  | .addIx => Sys2Proof.Machine.execAddIx s
  | .jmpDir d => Sys2Proof.Machine.execJmpDir d s
  | .jmpExt a => Sys2Proof.Machine.execJmpExt a s
  | .jmpIx2 o => Sys2Proof.Machine.execJmpIx2 o s
  | .jmpIx1 o => Sys2Proof.Machine.execJmpIx1 o s
  | .jmpIx => Sys2Proof.Machine.execJmpIx s
  | .jsrDir d => Sys2Proof.Machine.execJsrDir d s
  | .jsrExt a => Sys2Proof.Machine.execJsrExt a s
  | .jsrIx2 o => Sys2Proof.Machine.execJsrIx2 o s
  | .jsrIx1 o => Sys2Proof.Machine.execJsrIx1 o s
  | .jsrIx => Sys2Proof.Machine.execJsrIx s
  | .ldxImm v => Sys2Proof.Machine.execLdxImm v s
  | .ldxDir d => Sys2Proof.Machine.execLdxDir d s
  | .ldxExt a => Sys2Proof.Machine.execLdxExt a s
  | .ldxIx2 o => Sys2Proof.Machine.execLdxIx2 o s
  | .ldxIx1 o => Sys2Proof.Machine.execLdxIx1 o s
  | .ldxIx => Sys2Proof.Machine.execLdxIx s
  | .stxDir d => Sys2Proof.Machine.execStxDir d s
  | .stxExt a => Sys2Proof.Machine.execStxExt a s
  | .stxIx2 o => Sys2Proof.Machine.execStxIx2 o s
  | .stxIx1 o => Sys2Proof.Machine.execStxIx1 o s
  | .stxIx => Sys2Proof.Machine.execStxIx s

end Sys2Proof.Machine
end

