-- ==== Sys2Proof/Machine/Timing.lean ====
section
/-! DEFINITION. Instruction cycles (spec/70_reset_and_hazards.md R360 to R362). No functional rule reads them. -/

namespace Sys2Proof.Machine

/-- The cycles of one row: the HMOS figure, then the CMOS figure. -/
def perFamily (fam : Family) (hmos cmos : Nat) : Nat :=
  match fam with
  | .hmos => hmos
  | .cmos => cmos

/-- The cycle table (R360). STOP and WAIT have no HMOS figure: 0 stands there and no HMOS step reads it. -/
def cyclesOf (fam : Family) (i : Instr) : Nat :=
  match i with
  | .brset _ _ _ => perFamily fam 10 5
  | .brclr _ _ _ => perFamily fam 10 5
  | .bset _ _ => perFamily fam 7 5
  | .bclr _ _ => perFamily fam 7 5
  | .bra _ => perFamily fam 4 3
  | .brn _ => perFamily fam 4 3
  | .bhi _ => perFamily fam 4 3
  | .bls _ => perFamily fam 4 3
  | .bcc _ => perFamily fam 4 3
  | .bcs _ => perFamily fam 4 3
  | .bne _ => perFamily fam 4 3
  | .beq _ => perFamily fam 4 3
  | .bhcc _ => perFamily fam 4 3
  | .bhcs _ => perFamily fam 4 3
  | .bpl _ => perFamily fam 4 3
  | .bmi _ => perFamily fam 4 3
  | .bmc _ => perFamily fam 4 3
  | .bms _ => perFamily fam 4 3
  | .bil _ => perFamily fam 4 3
  | .bih _ => perFamily fam 4 3
  | .bhs _ => perFamily fam 4 3
  | .blo _ => perFamily fam 4 3
  | .bsr _ => perFamily fam 8 6
  | .negDir _ => perFamily fam 6 5
  | .nega => perFamily fam 4 3
  | .negx => perFamily fam 4 3
  | .negIx1 _ => perFamily fam 7 6
  | .negIx => perFamily fam 6 5
  | .comDir _ => perFamily fam 6 5
  | .coma => perFamily fam 4 3
  | .comx => perFamily fam 4 3
  | .comIx1 _ => perFamily fam 7 6
  | .comIx => perFamily fam 6 5
  | .lsrDir _ => perFamily fam 6 5
  | .lsra => perFamily fam 4 3
  | .lsrx => perFamily fam 4 3
  | .lsrIx1 _ => perFamily fam 7 6
  | .lsrIx => perFamily fam 6 5
  | .rorDir _ => perFamily fam 6 5
  | .rora => perFamily fam 4 3
  | .rorx => perFamily fam 4 3
  | .rorIx1 _ => perFamily fam 7 6
  | .rorIx => perFamily fam 6 5
  | .asrDir _ => perFamily fam 6 5
  | .asra => perFamily fam 4 3
  | .asrx => perFamily fam 4 3
  | .asrIx1 _ => perFamily fam 7 6
  | .asrIx => perFamily fam 6 5
  | .lslDir _ => perFamily fam 6 5
  | .aslDir _ => perFamily fam 6 5
  | .lsla => perFamily fam 4 3
  | .asla => perFamily fam 4 3
  | .lslx => perFamily fam 4 3
  | .aslx => perFamily fam 4 3
  | .lslIx1 _ => perFamily fam 7 6
  | .aslIx1 _ => perFamily fam 7 6
  | .lslIx => perFamily fam 6 5
  | .aslIx => perFamily fam 6 5
  | .rolDir _ => perFamily fam 6 5
  | .rola => perFamily fam 4 3
  | .rolx => perFamily fam 4 3
  | .rolIx1 _ => perFamily fam 7 6
  | .rolIx => perFamily fam 6 5
  | .decDir _ => perFamily fam 6 5
  | .deca => perFamily fam 4 3
  | .decx => perFamily fam 4 3
  | .decIx1 _ => perFamily fam 7 6
  | .decIx => perFamily fam 6 5
  | .incDir _ => perFamily fam 6 5
  | .inca => perFamily fam 4 3
  | .incx => perFamily fam 4 3
  | .incIx1 _ => perFamily fam 7 6
  | .incIx => perFamily fam 6 5
  | .tstDir _ => perFamily fam 6 4
  | .tsta => perFamily fam 4 3
  | .tstx => perFamily fam 4 3
  | .tstIx1 _ => perFamily fam 7 5
  | .tstIx => perFamily fam 6 4
  | .clrDir _ => perFamily fam 6 5
  | .clra => perFamily fam 4 3
  | .clrx => perFamily fam 4 3
  | .clrIx1 _ => perFamily fam 7 6
  | .clrIx => perFamily fam 6 5
  | .rti => perFamily fam 9 9
  | .rts => perFamily fam 6 6
  | .swi => perFamily fam 11 10
  | .stop => perFamily fam 0 2
  | .wait => perFamily fam 0 2
  | .tax => perFamily fam 2 2
  | .clc => perFamily fam 2 2
  | .sec => perFamily fam 2 2
  | .cli => perFamily fam 2 2
  | .sei => perFamily fam 2 2
  | .rsp => perFamily fam 2 2
  | .nop => perFamily fam 2 2
  | .txa => perFamily fam 2 2
  | .subImm _ => perFamily fam 2 2
  | .subDir _ => perFamily fam 4 3
  | .subExt _ => perFamily fam 5 4
  | .subIx2 _ => perFamily fam 6 5
  | .subIx1 _ => perFamily fam 5 4
  | .subIx => perFamily fam 4 3
  | .cmpImm _ => perFamily fam 2 2
  | .cmpDir _ => perFamily fam 4 3
  | .cmpExt _ => perFamily fam 5 4
  | .cmpIx2 _ => perFamily fam 6 5
  | .cmpIx1 _ => perFamily fam 5 4
  | .cmpIx => perFamily fam 4 3
  | .sbcImm _ => perFamily fam 2 2
  | .sbcDir _ => perFamily fam 4 3
  | .sbcExt _ => perFamily fam 5 4
  | .sbcIx2 _ => perFamily fam 6 5
  | .sbcIx1 _ => perFamily fam 5 4
  | .sbcIx => perFamily fam 4 3
  | .cpxImm _ => perFamily fam 2 2
  | .cpxDir _ => perFamily fam 4 3
  | .cpxExt _ => perFamily fam 5 4
  | .cpxIx2 _ => perFamily fam 6 5
  | .cpxIx1 _ => perFamily fam 5 4
  | .cpxIx => perFamily fam 4 3
  | .andImm _ => perFamily fam 2 2
  | .andDir _ => perFamily fam 4 3
  | .andExt _ => perFamily fam 5 4
  | .andIx2 _ => perFamily fam 6 5
  | .andIx1 _ => perFamily fam 5 4
  | .andIx => perFamily fam 4 3
  | .bitImm _ => perFamily fam 2 2
  | .bitDir _ => perFamily fam 4 3
  | .bitExt _ => perFamily fam 5 4
  | .bitIx2 _ => perFamily fam 6 5
  | .bitIx1 _ => perFamily fam 5 4
  | .bitIx => perFamily fam 4 3
  | .ldaImm _ => perFamily fam 2 2
  | .ldaDir _ => perFamily fam 4 3
  | .ldaExt _ => perFamily fam 5 4
  | .ldaIx2 _ => perFamily fam 6 5
  | .ldaIx1 _ => perFamily fam 5 4
  | .ldaIx => perFamily fam 4 3
  | .staDir _ => perFamily fam 5 4
  | .staExt _ => perFamily fam 6 5
  | .staIx2 _ => perFamily fam 7 6
  | .staIx1 _ => perFamily fam 6 5
  | .staIx => perFamily fam 5 4
  | .eorImm _ => perFamily fam 2 2
  | .eorDir _ => perFamily fam 4 3
  | .eorExt _ => perFamily fam 5 4
  | .eorIx2 _ => perFamily fam 6 5
  | .eorIx1 _ => perFamily fam 5 4
  | .eorIx => perFamily fam 4 3
  | .adcImm _ => perFamily fam 2 2
  | .adcDir _ => perFamily fam 4 3
  | .adcExt _ => perFamily fam 5 4
  | .adcIx2 _ => perFamily fam 6 5
  | .adcIx1 _ => perFamily fam 5 4
  | .adcIx => perFamily fam 4 3
  | .oraImm _ => perFamily fam 2 2
  | .oraDir _ => perFamily fam 4 3
  | .oraExt _ => perFamily fam 5 4
  | .oraIx2 _ => perFamily fam 6 5
  | .oraIx1 _ => perFamily fam 5 4
  | .oraIx => perFamily fam 4 3
  | .addImm _ => perFamily fam 2 2
  | .addDir _ => perFamily fam 4 3
  | .addExt _ => perFamily fam 5 4
  | .addIx2 _ => perFamily fam 6 5
  | .addIx1 _ => perFamily fam 5 4
  | .addIx => perFamily fam 4 3
  | .jmpDir _ => perFamily fam 3 2
  | .jmpExt _ => perFamily fam 4 3
  | .jmpIx2 _ => perFamily fam 5 4
  | .jmpIx1 _ => perFamily fam 4 3
  | .jmpIx => perFamily fam 3 2
  | .jsrDir _ => perFamily fam 7 5
  | .jsrExt _ => perFamily fam 8 6
  | .jsrIx2 _ => perFamily fam 9 7
  | .jsrIx1 _ => perFamily fam 8 6
  | .jsrIx => perFamily fam 7 5
  | .ldxImm _ => perFamily fam 2 2
  | .ldxDir _ => perFamily fam 4 3
  | .ldxExt _ => perFamily fam 5 4
  | .ldxIx2 _ => perFamily fam 6 5
  | .ldxIx1 _ => perFamily fam 5 4
  | .ldxIx => perFamily fam 4 3
  | .stxDir _ => perFamily fam 5 4
  | .stxExt _ => perFamily fam 6 5
  | .stxIx2 _ => perFamily fam 7 6
  | .stxIx1 _ => perFamily fam 6 5
  | .stxIx => perFamily fam 5 4

/-- The cycles of leaving STOP: the stated delay that lets the oscillator stabilise (R279), and what the restart spends beyond
it, which no source gives (R362, log entry 14). -/
def restartDelay (s : State) : Nat :=
  match s.runState with
  | .stopped => 1920 + Config.cyclesRestartBeyond s.cfg
  | .running | .waiting => 0

/-- Count some instruction cycles. -/
def addCycles (count : Nat) (s : State) : State := s.setCycles (s.cycles + count)

end Sys2Proof.Machine
end

