-- ==== Sys2Proof/Machine/Events.lean ====
section
/-! DEFINITION. What happens at an instruction boundary (spec/60_exceptions.md R303 to R315, spec/70_reset_and_hazards.md
R340, R341): the inputs of the step, the choice of the event, and the steps that run no instruction. -/

namespace Sys2Proof.Machine

/-- Whether reset is asserted at this boundary (R340). -/
def resetAsserted (s : State) : Bool :=
  match s.inputs with
  | [] => false
  | i :: _ => i.reset

/-- The external request latch after the pin is sampled: set by each high-to-low transition (R303, decision D15). -/
def latchAfter (s : State) (i : Input) : Bool := s.pendExt || i.pulse || (s.intPin && !i.intPin)

/-- The timer device after its input. While STOPPED the timer does not count and cannot request (R279). -/
def timerAfter (s : State) (i : Input) : Timer :=
  match s.runState, i.timer with
  | .stopped, _ => s.timer
  | _, none => s.timer
  | _, some t => t

/-- Take the inputs of one step: the pin level, the request latch, the timer device (R11, R303, R304). -/
def sampleInputs (s : State) : State :=
  match s.inputs with
  | [] => s
  | i :: rest => (((s.setPendExt (latchAfter s i)).setIntPin i.intPin).setTimer (timerAfter s i)).setInputs rest

/-- The choice at an instruction boundary (R305), external before timer (R309). -/
def chooseEvent (reset : Bool) (s : State) : Event :=
  if reset then .reset
  else if !s.cc.i && s.pendExt then .interrupt .ext
  else if !s.cc.i && pendTimer s then .interrupt .timer
  else match s.runState with
    | .running => .instruction
    | .stopped | .waiting => .idle

/-- A reset step, with its cycles (R341, R362). -/
def resetStep (s : State) : State :=
  addCycles (Config.cyclesReset s.cfg + restartDelay s) (takeReset s)

/-- A hardware interrupt step, with its latency and its cycles (R311, R279, R362). -/
def interruptStep (src : Source) (s : State) : State :=
  addCycles (Config.interruptLatency s.cfg + Config.cyclesIntEntry s.cfg + restartDelay s) (interruptEntry src s)

end Sys2Proof.Machine
end

