-- ==== Sys2Proof/Machine/Step.lean ====
section
/-! DEFINITION. The step function (spec/00_scope.md R11, spec/30_encoding.md R101, spec/60_exceptions.md R305). -/

namespace Sys2Proof.Machine

/-- Count the cycles of an instruction that has run (R360). -/
def charge (count : Nat) (o : Host.Outcome State Fault Refusal) : Host.Outcome State Fault Refusal :=
  match o with
  | .next t => .next (addCycles count t)
  | .fault r => .fault r
  | .refused r => .refused r

/-- Fetch, decode and execute the instruction at the PC (R101). -/
def runInstruction (s : State) : Host.Outcome State Fault Refusal :=
  match fetchInstr s with
  | (.ok i _, t) => charge (cyclesOf s.cfg.family i) (exec i t)
  | (.rejected _, _) => .fault (.undefinedOpcode (readByte s s.pc))

/-- One step: the inputs of this boundary, then one reset, one interrupt entry, one instruction, or, in STOP and WAIT with
no event, nothing (R11, R305). -/
def step (s : State) : Host.Outcome State Fault Refusal :=
  let t := sampleInputs s
  match chooseEvent (resetAsserted s) t with
  | .reset => .next (resetStep t)
  | .interrupt src => .next (interruptStep src t)
  | .instruction => runInstruction t
  | .idle => .next t

/-- Put some bytes where the PC points. -/
def placeBytes (pc : Addr) (bytes : List Byte) (s : State) : State :=
  match bytes with
  | [] => s
  | b :: rest => placeBytes (pc + 1) rest (s.setMem (s.mem.write (trunc s.cfg pc).toNat b))

/-- The state whose next step fetches and runs a table word: its bytes at the PC, no input to come, no request pending, the
processor running. It stands for loading a program from outside the machine (log entry 11). -/
def State.withFetchWord (s : State) (nbits w : Nat) : State :=
  ((((placeBytes s.pc ((tableWordBytes nbits w).take 3) s).setInputs []).setPendExt false).setTimer
    { s.timer with flag := false }).setRunState .running

end Sys2Proof.Machine
end

