-- ==== Sys2Proof/Certificates/Slice0/Frames.lean ====
section
/-! DEFINITION. The words the frame claims use: which of the 61 instructions an opcode row belongs to, where its operand is,
and what the spec's tables say it may change (spec/10_state.md R21, R22, R37, R45 to R47; spec/20_memory.md R68). -/

namespace Sys2Proof.Machine

/-- The 61 instructions (R98), each with all its forms. -/
inductive Op where
  | brset | brclr | bset | bclr | bra | brn | bhi | bls | bcc | bcs | bne | beq
  | bhcc | bhcs | bpl | bmi | bmc | bms | bil | bih | bsr | neg | com | lsr
  | ror | asr | lsl | rol | dec | inc | tst | clr | rti | rts | swi | stop
  | wait | tax | clc | sec | cli | sei | rsp | nop | txa | sub | cmp | sbc
  | cpx | and | bit | lda | sta | eor | adc | ora | add | jmp | jsr | ldx
  | stx
  deriving DecidableEq, Repr

/-- Where the operand of a form is. -/
inductive Place where
  /-- none, or a branch offset -/
  | none
  | regA
  | regX
  | imm
  | mem (mode : Mode)
  deriving DecidableEq, Repr

/-- The instruction a row is a form of. -/
def opOf (i : Instr) : Op :=
  match i with
  | .brset _ _ _ => .brset
  | .brclr _ _ _ => .brclr
  | .bset _ _ => .bset
  | .bclr _ _ => .bclr
  | .bra _ => .bra
  | .brn _ => .brn
  | .bhi _ => .bhi
  | .bls _ => .bls
  | .bcc _ => .bcc
  | .bcs _ => .bcs
  | .bne _ => .bne
  | .beq _ => .beq
  | .bhcc _ => .bhcc
  | .bhcs _ => .bhcs
  | .bpl _ => .bpl
  | .bmi _ => .bmi
  | .bmc _ => .bmc
  | .bms _ => .bms
  | .bil _ => .bil
  | .bih _ => .bih
  | .bhs _ => .bcc
  | .blo _ => .bcs
  | .bsr _ => .bsr
  | .negDir _ => .neg
  | .nega => .neg
  | .negx => .neg
  | .negIx1 _ => .neg
  | .negIx => .neg
  | .comDir _ => .com
  | .coma => .com
  | .comx => .com
  | .comIx1 _ => .com
  | .comIx => .com
  | .lsrDir _ => .lsr
  | .lsra => .lsr
  | .lsrx => .lsr
  | .lsrIx1 _ => .lsr
  | .lsrIx => .lsr
  | .rorDir _ => .ror
  | .rora => .ror
  | .rorx => .ror
  | .rorIx1 _ => .ror
  | .rorIx => .ror
  | .asrDir _ => .asr
  | .asra => .asr
  | .asrx => .asr
  | .asrIx1 _ => .asr
  | .asrIx => .asr
  | .lslDir _ => .lsl
  | .aslDir _ => .lsl
  | .lsla => .lsl
  | .asla => .lsl
  | .lslx => .lsl
  | .aslx => .lsl
  | .lslIx1 _ => .lsl
  | .aslIx1 _ => .lsl
  | .lslIx => .lsl
  | .aslIx => .lsl
  | .rolDir _ => .rol
  | .rola => .rol
  | .rolx => .rol
  | .rolIx1 _ => .rol
  | .rolIx => .rol
  | .decDir _ => .dec
  | .deca => .dec
  | .decx => .dec
  | .decIx1 _ => .dec
  | .decIx => .dec
  | .incDir _ => .inc
  | .inca => .inc
  | .incx => .inc
  | .incIx1 _ => .inc
  | .incIx => .inc
  | .tstDir _ => .tst
  | .tsta => .tst
  | .tstx => .tst
  | .tstIx1 _ => .tst
  | .tstIx => .tst
  | .clrDir _ => .clr
  | .clra => .clr
  | .clrx => .clr
  | .clrIx1 _ => .clr
  | .clrIx => .clr
  | .rti => .rti
  | .rts => .rts
  | .swi => .swi
  | .stop => .stop
  | .wait => .wait
  | .tax => .tax
  | .clc => .clc
  | .sec => .sec
  | .cli => .cli
  | .sei => .sei
  | .rsp => .rsp
  | .nop => .nop
  | .txa => .txa
  | .subImm _ => .sub
  | .subDir _ => .sub
  | .subExt _ => .sub
  | .subIx2 _ => .sub
  | .subIx1 _ => .sub
  | .subIx => .sub
  | .cmpImm _ => .cmp
  | .cmpDir _ => .cmp
  | .cmpExt _ => .cmp
  | .cmpIx2 _ => .cmp
  | .cmpIx1 _ => .cmp
  | .cmpIx => .cmp
  | .sbcImm _ => .sbc
  | .sbcDir _ => .sbc
  | .sbcExt _ => .sbc
  | .sbcIx2 _ => .sbc
  | .sbcIx1 _ => .sbc
  | .sbcIx => .sbc
  | .cpxImm _ => .cpx
  | .cpxDir _ => .cpx
  | .cpxExt _ => .cpx
  | .cpxIx2 _ => .cpx
  | .cpxIx1 _ => .cpx
  | .cpxIx => .cpx
  | .andImm _ => .and
  | .andDir _ => .and
  | .andExt _ => .and
  | .andIx2 _ => .and
  | .andIx1 _ => .and
  | .andIx => .and
  | .bitImm _ => .bit
  | .bitDir _ => .bit
  | .bitExt _ => .bit
  | .bitIx2 _ => .bit
  | .bitIx1 _ => .bit
  | .bitIx => .bit
  | .ldaImm _ => .lda
  | .ldaDir _ => .lda
  | .ldaExt _ => .lda
  | .ldaIx2 _ => .lda
  | .ldaIx1 _ => .lda
  | .ldaIx => .lda
  | .staDir _ => .sta
  | .staExt _ => .sta
  | .staIx2 _ => .sta
  | .staIx1 _ => .sta
  | .staIx => .sta
  | .eorImm _ => .eor
  | .eorDir _ => .eor
  | .eorExt _ => .eor
  | .eorIx2 _ => .eor
  | .eorIx1 _ => .eor
  | .eorIx => .eor
  | .adcImm _ => .adc
  | .adcDir _ => .adc
  | .adcExt _ => .adc
  | .adcIx2 _ => .adc
  | .adcIx1 _ => .adc
  | .adcIx => .adc
  | .oraImm _ => .ora
  | .oraDir _ => .ora
  | .oraExt _ => .ora
  | .oraIx2 _ => .ora
  | .oraIx1 _ => .ora
  | .oraIx => .ora
  | .addImm _ => .add
  | .addDir _ => .add
  | .addExt _ => .add
  | .addIx2 _ => .add
  | .addIx1 _ => .add
  | .addIx => .add
  | .jmpDir _ => .jmp
  | .jmpExt _ => .jmp
  | .jmpIx2 _ => .jmp
  | .jmpIx1 _ => .jmp
  | .jmpIx => .jmp
  | .jsrDir _ => .jsr
  | .jsrExt _ => .jsr
  | .jsrIx2 _ => .jsr
  | .jsrIx1 _ => .jsr
  | .jsrIx => .jsr
  | .ldxImm _ => .ldx
  | .ldxDir _ => .ldx
  | .ldxExt _ => .ldx
  | .ldxIx2 _ => .ldx
  | .ldxIx1 _ => .ldx
  | .ldxIx => .ldx
  | .stxDir _ => .stx
  | .stxExt _ => .stx
  | .stxIx2 _ => .stx
  | .stxIx1 _ => .stx
  | .stxIx => .stx

/-- Where a row's operand is. -/
def placeOf (i : Instr) : Place :=
  match i with
  | .brset _ d _ => .mem (.dir d)
  | .brclr _ d _ => .mem (.dir d)
  | .bset _ d => .mem (.dir d)
  | .bclr _ d => .mem (.dir d)
  | .bra _ => .none
  | .brn _ => .none
  | .bhi _ => .none
  | .bls _ => .none
  | .bcc _ => .none
  | .bcs _ => .none
  | .bne _ => .none
  | .beq _ => .none
  | .bhcc _ => .none
  | .bhcs _ => .none
  | .bpl _ => .none
  | .bmi _ => .none
  | .bmc _ => .none
  | .bms _ => .none
  | .bil _ => .none
  | .bih _ => .none
  | .bhs _ => .none
  | .blo _ => .none
  | .bsr _ => .none
  | .negDir d => .mem (.dir d)
  | .nega => .regA
  | .negx => .regX
  | .negIx1 o => .mem (.ix1 o)
  | .negIx => .mem .ix
  | .comDir d => .mem (.dir d)
  | .coma => .regA
  | .comx => .regX
  | .comIx1 o => .mem (.ix1 o)
  | .comIx => .mem .ix
  | .lsrDir d => .mem (.dir d)
  | .lsra => .regA
  | .lsrx => .regX
  | .lsrIx1 o => .mem (.ix1 o)
  | .lsrIx => .mem .ix
  | .rorDir d => .mem (.dir d)
  | .rora => .regA
  | .rorx => .regX
  | .rorIx1 o => .mem (.ix1 o)
  | .rorIx => .mem .ix
  | .asrDir d => .mem (.dir d)
  | .asra => .regA
  | .asrx => .regX
  | .asrIx1 o => .mem (.ix1 o)
  | .asrIx => .mem .ix
  | .lslDir d => .mem (.dir d)
  | .aslDir d => .mem (.dir d)
  | .lsla => .regA
  | .asla => .regA
  | .lslx => .regX
  | .aslx => .regX
  | .lslIx1 o => .mem (.ix1 o)
  | .aslIx1 o => .mem (.ix1 o)
  | .lslIx => .mem .ix
  | .aslIx => .mem .ix
  | .rolDir d => .mem (.dir d)
  | .rola => .regA
  | .rolx => .regX
  | .rolIx1 o => .mem (.ix1 o)
  | .rolIx => .mem .ix
  | .decDir d => .mem (.dir d)
  | .deca => .regA
  | .decx => .regX
  | .decIx1 o => .mem (.ix1 o)
  | .decIx => .mem .ix
  | .incDir d => .mem (.dir d)
  | .inca => .regA
  | .incx => .regX
  | .incIx1 o => .mem (.ix1 o)
  | .incIx => .mem .ix
  | .tstDir d => .mem (.dir d)
  | .tsta => .regA
  | .tstx => .regX
  | .tstIx1 o => .mem (.ix1 o)
  | .tstIx => .mem .ix
  | .clrDir d => .mem (.dir d)
  | .clra => .regA
  | .clrx => .regX
  | .clrIx1 o => .mem (.ix1 o)
  | .clrIx => .mem .ix
  | .rti => .none
  | .rts => .none
  | .swi => .none
  | .stop => .none
  | .wait => .none
  | .tax => .none
  | .clc => .none
  | .sec => .none
  | .cli => .none
  | .sei => .none
  | .rsp => .none
  | .nop => .none
  | .txa => .none
  | .subImm _ => .imm
  | .subDir d => .mem (.dir d)
  | .subExt a => .mem (.ext a)
  | .subIx2 o => .mem (.ix2 o)
  | .subIx1 o => .mem (.ix1 o)
  | .subIx => .mem .ix
  | .cmpImm _ => .imm
  | .cmpDir d => .mem (.dir d)
  | .cmpExt a => .mem (.ext a)
  | .cmpIx2 o => .mem (.ix2 o)
  | .cmpIx1 o => .mem (.ix1 o)
  | .cmpIx => .mem .ix
  | .sbcImm _ => .imm
  | .sbcDir d => .mem (.dir d)
  | .sbcExt a => .mem (.ext a)
  | .sbcIx2 o => .mem (.ix2 o)
  | .sbcIx1 o => .mem (.ix1 o)
  | .sbcIx => .mem .ix
  | .cpxImm _ => .imm
  | .cpxDir d => .mem (.dir d)
  | .cpxExt a => .mem (.ext a)
  | .cpxIx2 o => .mem (.ix2 o)
  | .cpxIx1 o => .mem (.ix1 o)
  | .cpxIx => .mem .ix
  | .andImm _ => .imm
  | .andDir d => .mem (.dir d)
  | .andExt a => .mem (.ext a)
  | .andIx2 o => .mem (.ix2 o)
  | .andIx1 o => .mem (.ix1 o)
  | .andIx => .mem .ix
  | .bitImm _ => .imm
  | .bitDir d => .mem (.dir d)
  | .bitExt a => .mem (.ext a)
  | .bitIx2 o => .mem (.ix2 o)
  | .bitIx1 o => .mem (.ix1 o)
  | .bitIx => .mem .ix
  | .ldaImm _ => .imm
  | .ldaDir d => .mem (.dir d)
  | .ldaExt a => .mem (.ext a)
  | .ldaIx2 o => .mem (.ix2 o)
  | .ldaIx1 o => .mem (.ix1 o)
  | .ldaIx => .mem .ix
  | .staDir d => .mem (.dir d)
  | .staExt a => .mem (.ext a)
  | .staIx2 o => .mem (.ix2 o)
  | .staIx1 o => .mem (.ix1 o)
  | .staIx => .mem .ix
  | .eorImm _ => .imm
  | .eorDir d => .mem (.dir d)
  | .eorExt a => .mem (.ext a)
  | .eorIx2 o => .mem (.ix2 o)
  | .eorIx1 o => .mem (.ix1 o)
  | .eorIx => .mem .ix
  | .adcImm _ => .imm
  | .adcDir d => .mem (.dir d)
  | .adcExt a => .mem (.ext a)
  | .adcIx2 o => .mem (.ix2 o)
  | .adcIx1 o => .mem (.ix1 o)
  | .adcIx => .mem .ix
  | .oraImm _ => .imm
  | .oraDir d => .mem (.dir d)
  | .oraExt a => .mem (.ext a)
  | .oraIx2 o => .mem (.ix2 o)
  | .oraIx1 o => .mem (.ix1 o)
  | .oraIx => .mem .ix
  | .addImm _ => .imm
  | .addDir d => .mem (.dir d)
  | .addExt a => .mem (.ext a)
  | .addIx2 o => .mem (.ix2 o)
  | .addIx1 o => .mem (.ix1 o)
  | .addIx => .mem .ix
  | .jmpDir d => .mem (.dir d)
  | .jmpExt a => .mem (.ext a)
  | .jmpIx2 o => .mem (.ix2 o)
  | .jmpIx1 o => .mem (.ix1 o)
  | .jmpIx => .mem .ix
  | .jsrDir d => .mem (.dir d)
  | .jsrExt a => .mem (.ext a)
  | .jsrIx2 o => .mem (.ix2 o)
  | .jsrIx1 o => .mem (.ix1 o)
  | .jsrIx => .mem .ix
  | .ldxImm _ => .imm
  | .ldxDir d => .mem (.dir d)
  | .ldxExt a => .mem (.ext a)
  | .ldxIx2 o => .mem (.ix2 o)
  | .ldxIx1 o => .mem (.ix1 o)
  | .ldxIx => .mem .ix
  | .stxDir d => .mem (.dir d)
  | .stxExt a => .mem (.ext a)
  | .stxIx2 o => .mem (.ix2 o)
  | .stxIx1 o => .mem (.ix1 o)
  | .stxIx => .mem .ix

/-- The read/modify/write instructions that write their operand back: all but TST (R201, R213). -/
def modifies (op : Op) : Bool :=
  match op with
  | .neg | .com | .lsr | .ror | .asr | .lsl | .rol | .dec | .inc | .clr => true
  | _ => false

/-- The instructions that write A (R21). -/
def writesA (i : Instr) : Bool :=
  match opOf i with
  | .adc | .add | .and | .eor | .ora | .sbc | .sub | .lda | .txa | .rti => true
  | op => modifies op && placeOf i == .regA

/-- The instructions that write X (R22). -/
def writesX (i : Instr) : Bool :=
  match opOf i with
  | .ldx | .tax | .rti => true
  | op => modifies op && placeOf i == .regX

/-- The instructions that may leave the PC elsewhere than at the next instruction. -/
def transfersControl (op : Op) : Bool :=
  match op with
  | .jmp | .jsr | .bsr | .rts | .rti | .swi => true
  | .brset | .brclr | .bra | .brn | .bhi | .bls | .bcc | .bcs | .bne | .beq => true
  | .bhcc | .bhcs | .bpl | .bmi | .bmc | .bms | .bil | .bih => true
  | _ => false

/-- The stack pointer `k` pushes lower. -/
def spBelow (c : Config) (k : Nat) (sp : Addr) : Addr :=
  match k with
  | 0 => sp
  | j + 1 => spDown c (spBelow c j sp)

/-- The stack pointer `k` pulls higher. -/
def spAbove (c : Config) (k : Nat) (sp : Addr) : Addr :=
  match k with
  | 0 => sp
  | j + 1 => spUp c (spAbove c j sp)

/-- What an instruction does to the stack pointer (R37). -/
def spAfter (i : Instr) (s : State) : Addr :=
  match opOf i with
  | .bsr | .jsr => spBelow s.cfg 2 s.sp
  | .swi => spBelow s.cfg 5 s.sp
  | .rts => spAbove s.cfg 2 s.sp
  | .rti => spAbove s.cfg 5 s.sp
  | .rsp => 0x7F
  | _ => s.sp

/-- The effective address of the operand, where the operand is in memory. -/
def operandAddress (i : Instr) (s : State) : List Addr :=
  match placeOf i with
  | .mem mode => [ea mode s]
  | .none | .regA | .regX | .imm => []

/-- The addresses an instruction stores to, computed as its meaning computes them (R68): the effective address, or the
stack slots. -/
def storesTo (i : Instr) (s : State) : List Addr :=
  match opOf i with
  | .sta | .stx | .bset | .bclr => operandAddress i s
  | .neg | .com | .lsr | .ror | .asr | .lsl | .rol | .dec | .inc | .clr => operandAddress i s
  | .jsr | .bsr => [s.sp, spBelow s.cfg 1 s.sp]
  | .swi => [s.sp, spBelow s.cfg 1 s.sp, spBelow s.cfg 2 s.sp, spBelow s.cfg 3 s.sp, spBelow s.cfg 4 s.sp]
  | _ => []

/-- What R47 says of one flag. -/
inductive FlagEffect where
  /-- `-`, not affected -/
  | kept
  /-- `*`, by the result -/
  | result
  /-- `0` -/
  | cleared
  /-- `1` -/
  | set
  deriving DecidableEq, Repr

/-- A row of R47: H, I, N, Z, C. -/
structure FlagRow where
  h : FlagEffect
  i : FlagEffect
  n : FlagEffect
  z : FlagEffect
  c : FlagEffect
  deriving DecidableEq, Repr

/-- The table of R47. -/
def flagRow (op : Op) : FlagRow :=
  match op with
  | .adc | .add => ⟨.result, .kept, .result, .result, .result⟩
  | .sub | .sbc | .cmp | .cpx => ⟨.kept, .kept, .result, .result, .result⟩
  | .and | .bit | .eor | .ora | .lda | .ldx | .sta | .stx => ⟨.kept, .kept, .result, .result, .kept⟩
  | .neg | .asr | .lsl | .rol | .ror => ⟨.kept, .kept, .result, .result, .result⟩
  | .com => ⟨.kept, .kept, .result, .result, .set⟩
  | .lsr => ⟨.kept, .kept, .cleared, .result, .result⟩
  | .dec | .inc | .tst => ⟨.kept, .kept, .result, .result, .kept⟩
  | .clr => ⟨.kept, .kept, .cleared, .set, .kept⟩
  | .brset | .brclr => ⟨.kept, .kept, .kept, .kept, .result⟩
  | .clc => ⟨.kept, .kept, .kept, .kept, .cleared⟩
  | .sec => ⟨.kept, .kept, .kept, .kept, .set⟩
  | .cli | .stop | .wait => ⟨.kept, .cleared, .kept, .kept, .kept⟩
  | .sei | .swi => ⟨.kept, .set, .kept, .kept, .kept⟩
  | .rti => ⟨.result, .result, .result, .result, .result⟩
  | .jmp | .jsr | .bsr | .rts | .nop | .rsp | .tax | .txa | .bset | .bclr => ⟨.kept, .kept, .kept, .kept, .kept⟩
  | .bra | .brn | .bhi | .bls | .bcc | .bcs | .bne | .beq => ⟨.kept, .kept, .kept, .kept, .kept⟩
  | .bhcc | .bhcs | .bpl | .bmi | .bmc | .bms | .bil | .bih => ⟨.kept, .kept, .kept, .kept, .kept⟩

/-- Whether a flag went from one value to another as a table entry says. -/
def FlagEffect.Allows (e : FlagEffect) (before after : Bool) : Prop :=
  match e with
  | .kept => after = before
  | .result => True
  | .cleared => after = false
  | .set => after = true

end Sys2Proof.Machine
end

