-- ==== Sys2Proof/Safety.lean ====
section
/-! DEFINITION. What counts as a safe run, and the invariant of the machine, in the terms the claims use. -/

namespace Sys2Proof.Machine

/-- The lowest address the stack pointer can hold, `$80 - 2^SP_BITS` (R30). -/
def stackLow (c : Config) : Nat := 0x80 - 2 ^ c.spBits

/-- The usable stack length (R31): one byte less on HMOS. -/
def usableStack (c : Config) : Nat :=
  match c.family with
  | .hmos => 2 ^ c.spBits - 1
  | .cmos => 2 ^ c.spBits

/-- A step of this state has a next state: the one way to be unsafe is an undefined opcode (R99, R301). -/
def Safe (s : State) : Prop := ∃ t, step s = .next t

/-- Every location the stack pointer can reach is RAM, as a program that uses the stack needs (R38). -/
def StackIsRam (s : State) : Prop :=
  ∀ addr : Addr, stackLow s.cfg ≤ addr.toNat → addr.toNat ≤ 0x7F → kindAt s addr = .ram

/-- The two bytes of a vector lie in RAM or ROM (R307). -/
def VectorIsMemory (s : State) (vec : Addr) : Prop :=
  (kindAt s vec = .ram ∨ kindAt s vec = .rom) ∧ (kindAt s (vec + 1) = .ram ∨ kindAt s (vec + 1) = .rom)

/-- What every reset state has and every step keeps. -/
structure Inv (s : State) : Prop where
  /-- the member's parameters are in the ranges of R6 -/
  config : s.cfg.wf
  /-- the PC has `ADDR_BITS` bits (R25) -/
  pcInRange : s.pc.toNat < 2 ^ s.cfg.addrBits
  /-- only the counting field of SP varies (R30) -/
  spInRange : stackLow s.cfg ≤ s.sp.toNat ∧ s.sp.toNat ≤ 0x7F
  /-- the memory is in canonical form -/
  memCanonical : s.mem.wf
  /-- no byte is held outside the address space (R60) -/
  memInSpace : s.mem.within (2 ^ s.cfg.addrBits)
  /-- STOPPED and WAITING exist on CMOS only (R52) -/
  hmosRuns : s.cfg.family = .hmos → s.runState = .running
  /-- the low-power states have interrupts enabled (R279, R283) -/
  lowPowerUnmasked : s.runState ≠ .running → s.cc.i = false
  /-- no timer request while STOPPED (R279) -/
  stoppedNoTimer : s.runState = .stopped → pendTimer s = false

end Sys2Proof.Machine
end

