-- ==== Sys2Proof/Certificates/Slice0/Obligations.lean ====
section
/-! DEFINITION. The statements for the provers. Each docstring names the rule of spec/ it formalises, or says that it rests on
a decision the spec marks as its own. The words the statements share stand first. -/

namespace Sys2Proof.Machine

/-! ### Flags as the manual's printed formulas give them (R170, R171, R175) -/

/-- N: bit 7 of the result. -/
def printedN (r : Byte) : Bool := r.getLsbD 7

/-- Z: the AND of the complements of all eight result bits. -/
def printedZ (r : Byte) : Bool :=
  !r.getLsbD 7 && !r.getLsbD 6 && !r.getLsbD 5 && !r.getLsbD 4 &&
    !r.getLsbD 3 && !r.getLsbD 2 && !r.getLsbD 1 && !r.getLsbD 0

/-- H of an addition: A3·M3 + M3·¬R3 + ¬R3·A3. -/
def printedH (a m r : Byte) : Bool :=
  (a.getLsbD 3 && m.getLsbD 3) || (m.getLsbD 3 && !r.getLsbD 3) || (!r.getLsbD 3 && a.getLsbD 3)

/-- C of an addition: A7·M7 + M7·¬R7 + ¬R7·A7. -/
def printedAddC (a m r : Byte) : Bool :=
  (a.getLsbD 7 && m.getLsbD 7) || (m.getLsbD 7 && !r.getLsbD 7) || (!r.getLsbD 7 && a.getLsbD 7)

/-- C of a subtraction or comparison: ¬A7·M7 + M7·R7 + R7·¬A7. -/
def printedSubC (a m r : Byte) : Bool :=
  (!a.getLsbD 7 && m.getLsbD 7) || (m.getLsbD 7 && r.getLsbD 7) || (r.getLsbD 7 && !a.getLsbD 7)

/-- The flags with N and Z from a result, the others kept. -/
def withNZ (cc : CC) (r : Byte) : CC := { cc with n := printedN r, z := printedZ r }

/-- The flags with N and Z from a result and a given C, H and I kept. -/
def withNZC (cc : CC) (r : Byte) (c : Bool) : CC := { cc with n := printedN r, z := printedZ r, c := c }

/-- The carry as a byte. -/
def carryByte (cc : CC) : Byte := if cc.c then 1 else 0

/-! ### The forms of an instruction -/

/-- The five memory forms of a register/memory instruction (R170). -/
structure MemoryForms where
  dir : Byte → Instr
  ext : Addr → Instr
  ix2 : Addr → Instr
  ix1 : Byte → Instr
  ix : Instr

/-- What the rules of 41_register_memory.md say of five memory forms whose low nibble is `k`, whose direct form takes `h`
(HMOS) and `c` (CMOS) cycles and whose effect in each mode is `effect`: opcodes, cycles, completion and effect. -/
def MemoryForms.Obey (f : MemoryForms) (k : Byte) (h c : Nat) (effect : Mode → State → State) : Prop :=
  (∀ d s, exec (f.dir d) s = .next (effect (.dir d) s)) ∧
  (∀ a s, exec (f.ext a) s = .next (effect (.ext a) s)) ∧
  (∀ o s, exec (f.ix2 o) s = .next (effect (.ix2 o) s)) ∧
  (∀ o s, exec (f.ix1 o) s = .next (effect (.ix1 o) s)) ∧
  (∀ s, exec f.ix s = .next (effect .ix s)) ∧
  (∀ d, encode (f.dir d) = [0xB0 + k, d]) ∧
  (∀ a, encode (f.ext a) = [0xC0 + k, hiByte a, loByte a]) ∧
  (∀ o, encode (f.ix2 o) = [0xD0 + k, hiByte o, loByte o]) ∧
  (∀ o, encode (f.ix1 o) = [0xE0 + k, o]) ∧
  encode f.ix = [0xF0 + k] ∧
  (∀ d, cyclesOf .hmos (f.dir d) = h ∧ cyclesOf .cmos (f.dir d) = c) ∧
  (∀ a, cyclesOf .hmos (f.ext a) = h + 1 ∧ cyclesOf .cmos (f.ext a) = c + 1) ∧
  (∀ o, cyclesOf .hmos (f.ix2 o) = h + 2 ∧ cyclesOf .cmos (f.ix2 o) = c + 2) ∧
  (∀ o, cyclesOf .hmos (f.ix1 o) = h + 1 ∧ cyclesOf .cmos (f.ix1 o) = c + 1) ∧
  (cyclesOf .hmos f.ix = h ∧ cyclesOf .cmos f.ix = c)

/-- What they say of the six forms of an instruction that reads an operand: the operand is the immediate byte, or the byte
one read of the effective address returns; two cycles for the immediate form, 4 and 3 for the direct one. -/
def MemoryForms.ObeyOperand (f : MemoryForms) (imm : Byte → Instr) (k : Byte) (effect : Byte → State → State) : Prop :=
  f.Obey k 4 3 (fun mode s => effect (readByte s (ea mode s)) (afterRead s (ea mode s))) ∧
  (∀ v s, exec (imm v) s = .next (effect v s)) ∧
  (∀ v, encode (imm v) = [0xA0 + k, v]) ∧
  (∀ v, cyclesOf .hmos (imm v) = 2 ∧ cyclesOf .cmos (imm v) = 2)

/-- The five forms of a read/modify/write instruction (R200). -/
structure RmwForms where
  dir : Byte → Instr
  regA : Instr
  regX : Instr
  ix1 : Byte → Instr
  ix : Instr

/-- What the rules of 42_read_modify_write.md say of the five forms with low nibble `k`: opcodes, cycles (`c` on CMOS for the
direct form), completion, and the effects on memory, on A and on X. -/
def RmwForms.Obey (f : RmwForms) (k : Byte) (c : Nat) (onMem : Mode → State → State) (onRegA onRegX : State → State) : Prop :=
  (∀ d s, exec (f.dir d) s = .next (onMem (.dir d) s)) ∧
  (∀ s, exec f.regA s = .next (onRegA s)) ∧
  (∀ s, exec f.regX s = .next (onRegX s)) ∧
  (∀ o s, exec (f.ix1 o) s = .next (onMem (.ix1 o) s)) ∧
  (∀ s, exec f.ix s = .next (onMem .ix s)) ∧
  (∀ d, encode (f.dir d) = [0x30 + k, d]) ∧ encode f.regA = [0x40 + k] ∧ encode f.regX = [0x50 + k] ∧
  (∀ o, encode (f.ix1 o) = [0x60 + k, o]) ∧ encode f.ix = [0x70 + k] ∧
  (∀ d, cyclesOf .hmos (f.dir d) = 6 ∧ cyclesOf .cmos (f.dir d) = c) ∧
  (cyclesOf .hmos f.regA = 4 ∧ cyclesOf .cmos f.regA = 3) ∧ (cyclesOf .hmos f.regX = 4 ∧ cyclesOf .cmos f.regX = 3) ∧
  (∀ o, cyclesOf .hmos (f.ix1 o) = 7 ∧ cyclesOf .cmos (f.ix1 o) = c + 1) ∧
  (cyclesOf .hmos f.ix = 6 ∧ cyclesOf .cmos f.ix = c)

/-- The same for an instruction that writes its operand back, from its byte function (R201): one read, then one write of the
same address; A or X replaced. -/
def RmwForms.ObeyModify (f : RmwForms) (k : Byte) (op : Byte → CC → Byte × CC) : Prop :=
  f.Obey k 5
    (fun mode s => (memWrite (afterRead s (ea mode s)) (ea mode s) (op (readByte s (ea mode s)) s.cc).1).setCc
      (op (readByte s (ea mode s)) s.cc).2)
    (fun s => (s.setA (op s.a s.cc).1).setCc (op s.a s.cc).2)
    (fun s => (s.setX (op s.x s.cc).1).setCc (op s.x s.cc).2)

/-- What the rules of 43_branch.md say of one two-byte branch: its opcode, its cycles, and where it goes. -/
def BranchObeys (mk : Byte → Instr) (op : Byte) (cond : State → Prop) : Prop :=
  (∀ r s, cond s → exec (mk r) s = .next (s.setPc (relTarget r s))) ∧
  (∀ r s, ¬cond s → exec (mk r) s = .next s) ∧
  (∀ r, encode (mk r) = [op, r]) ∧
  (∀ r, cyclesOf .hmos (mk r) = 4 ∧ cyclesOf .cmos (mk r) = 3)

/-- One-byte instructions: opcode and cycles. -/
def OneByte (i : Instr) (op : Byte) (h c : Nat) : Prop :=
  encode i = [op] ∧ cyclesOf .hmos i = h ∧ cyclesOf .cmos i = c

/-! ### Stacks, frames, events -/

/-- What a call leaves (R36, R179, R249): the return address in the two slots, every other byte kept, SP two lower, the PC at
the target, and nothing else changed. -/
def CallStacked (s t : State) (target : Addr) : Prop :=
  t = ((s.setMem t.mem).setSp (spBelow s.cfg 2 s.sp)).setPc target ∧
  content t s.sp = pclByte s.pc ∧
  content t (spBelow s.cfg 1 s.sp) = pchByte s.cfg s.pc ∧
  ∀ b : Addr, (∀ k : Nat, k < 2 → trunc s.cfg b ≠ trunc s.cfg (spBelow s.cfg k s.sp)) → content t b = content s b

/-- The state after some pulls. -/
def afterPulls (k : Nat) (s : State) : State :=
  match k with
  | 0 => s
  | j + 1 => (pull (afterPulls j s)).2

/-- The frame of an interrupt, pushed byte by byte (R36). -/
def framePushed (s : State) : State :=
  push (ccByte s.cc) (push s.a (push s.x (push (pchByte s.cfg s.pc) (push (pclByte s.pc) s))))

/-- What taking an exception leaves in the stack and the PC (R36, R280, R310): the five-byte frame, every other byte kept, SP
five lower, the PC from the vector. -/
def FrameStacked (s t : State) (vec : Addr) : Prop :=
  t.sp = spBelow s.cfg 5 s.sp ∧
  content t s.sp = pclByte s.pc ∧
  content t (spBelow s.cfg 1 s.sp) = pchByte s.cfg s.pc ∧
  content t (spBelow s.cfg 2 s.sp) = s.x ∧
  content t (spBelow s.cfg 3 s.sp) = s.a ∧
  content t (spBelow s.cfg 4 s.sp) = ccByte s.cc ∧
  (∀ b : Addr, (∀ k : Nat, k < 5 → trunc s.cfg b ≠ trunc s.cfg (spBelow s.cfg k s.sp)) → content t b = content s b) ∧
  t.pc = trunc s.cfg (wordOf (content t vec) (content t (vec + 1)))

/-- The state with the registers of another, as a return from an exception restores them. -/
def withRegistersOf (u s : State) : State :=
  ((((u.setA s.a).setX s.x).setCc s.cc).setSp s.sp).setPc s.pc

/-- Nothing but the next instruction can happen at this boundary: no input to come, running, no unmasked request. -/
def Quiet (s : State) : Prop :=
  s.inputs = [] ∧ s.runState = .running ∧ (s.cc.i = true ∨ (s.pendExt = false ∧ pendTimer s = false))

/-- Some bytes lie in RAM or ROM from an address up. -/
def CodeAt (s : State) (pc : Addr) (bytes : List Byte) : Prop :=
  match bytes with
  | [] => True
  | b :: rest => (kindAt s pc = .ram ∨ kindAt s pc = .rom) ∧ content s pc = b ∧ CodeAt s (pc + 1) rest

/-- The cycles of leaving STOP: the stated delay of 1920, and what the restart spends beyond it (R279, R362); none elsewhere. -/
def stopDelay (s : State) : Nat := if s.runState = .stopped then 1920 + Config.cyclesRestartBeyond s.cfg else 0

/-- The 47 opcode bytes with no instruction on CMOS, and two more on HMOS (R99). -/
def undefinedOpcodes (fam : Family) : List Byte :=
  let low : List Byte :=
    [0x31, 0x32, 0x35, 0x3B, 0x3E, 0x41, 0x42, 0x45, 0x4B, 0x4E, 0x51, 0x52, 0x55, 0x5B, 0x5E]
  let middle : List Byte :=
    [0x61, 0x62, 0x65, 0x6B, 0x6E, 0x71, 0x72, 0x75, 0x7B, 0x7E, 0x82, 0x84, 0x85, 0x86, 0x87]
  let high : List Byte :=
    [0x88, 0x89, 0x8A, 0x8B, 0x8C, 0x8D, 0x90, 0x91, 0x92, 0x93, 0x94, 0x95, 0x96, 0x9E, 0xA7, 0xAC, 0xAF]
  low ++ middle ++ high ++
    match fam with
    | .hmos => [0x8E, 0x8F]
    | .cmos => []

/-- A function on the state, under an outcome. -/
def onNext (f : State → State) (o : Host.Outcome State Fault Refusal) : Host.Outcome State Fault Refusal :=
  match o with
  | .next t => .next (f t)
  | .fault r => .fault r
  | .refused r => .refused r

end Sys2Proof.Machine

open Sys2Proof Sys2Proof.Machine

/-! ### Encoding -/

/-- Decoding the bytes of a well-formed instruction gives the instruction back, with the bytes after it untouched, for every
operand (derived from R92, R97, R101). -/
def Obligations.DecodeOfEncode : Prop :=
  ∀ (fam : Family) (i : Instr) (rest : List Byte), i.WellFormed fam → decode fam (encode i ++ rest) = .ok i rest

/-- Whatever bytes the decoder accepts are the bytes of the instruction it answers, which is well formed: no two words decode
to one instruction (derived from R97, R101). -/
def Obligations.EncodeOfDecode : Prop :=
  ∀ (fam : Family) (bytes rest : List Byte) (i : Instr), decode fam bytes = .ok i rest →
    i.WellFormed fam ∧ encode i ++ rest = bytes

/-- 209 opcode bytes are defined on CMOS and 207 on HMOS (derived from R98). -/
def Obligations.OpcodeCounts : Prop :=
  ((List.range 256).filter fun op => (opcodeShape .cmos (BitVec.ofNat 8 op)).isSome).length = 209 ∧
  ((List.range 256).filter fun op => (opcodeShape .hmos (BitVec.ofNat 8 op)).isSome).length = 207

/-- Exactly the listed bytes have no instruction, whatever follows them, and a step that fetches one has no next state but the
fault that names it (derived from R99; that such a byte is a fault of the model, and $8E and $8F on HMOS with it, is decisions
D16 and D23, log entry 25). -/
def Obligations.UndefinedOpcodesHaveNoInstruction : Prop :=
  (∀ (fam : Family) (op : Byte) (rest : List Byte),
    op ∈ undefinedOpcodes fam ↔ decode fam (op :: rest) = .rejected (.undefinedOpcode op)) ∧
  (∀ s : State, Quiet s → readByte s s.pc ∈ undefinedOpcodes s.cfg.family →
    step s = .fault (.undefinedOpcode (readByte s s.pc)))

/-- The first byte alone decides an instruction's length, 1 to 3, and the decoder takes that many bytes (derived from R90,
R91, R94). -/
def Obligations.OpcodeDecidesLength : Prop :=
  ∀ (fam : Family) (op : Byte) (operands rest : List Byte) (i : Instr), decode fam (op :: operands) = .ok i rest →
    (encode i).length = instrLength op ∧ operands.length + 1 = instrLength op + rest.length ∧
      1 ≤ instrLength op ∧ instrLength op ≤ 3

/-- A few words written out from the opcode map decode to their instructions (derived from R97; sanity). -/
def Obligations.WordsOfTheMapDecode : Prop :=
  decode .cmos [0x0F, 0x09, 0xFD] = .ok (.brclr 7 0x09 0xFD) [] ∧
  decode .cmos [0x15, 0x01] = .ok (.bclr 2 0x01) [] ∧
  decode .cmos [0x26, 0xFA] = .ok (.bne 0xFA) [] ∧
  decode .cmos [0x6A, 0xFF] = .ok (.decIx1 0xFF) [] ∧
  decode .cmos [0xCE, 0x08, 0x00] = .ok (.ldxExt 0x0800) [] ∧
  decode .cmos [0xD6, 0x01, 0xFF] = .ok (.ldaIx2 0x01FF) [] ∧
  decode .cmos [0x83] = .ok .swi [] ∧
  decode .cmos [0xAD, 0x20] = .ok (.bsr 0x20) []

/-- An instruction written under its second name has the bytes and the effect of the primary name (derived from R102). -/
def Obligations.SecondNamesAreOneInstruction : Prop :=
  ∀ i : Instr, encode i = encode i.primary ∧ (∀ fam, cyclesOf fam i = cyclesOf fam i.primary) ∧
    ∀ s, exec i s = exec i.primary s

/-! ### The step -/

/-- Where the boundary gives the next step to an instruction and the bytes at the PC decode to one, the step is exec of it
after the fetch, with its cycles counted (derived from R101, R305, R360). -/
def Obligations.StepRunsDecodedInstruction : Prop :=
  ∀ (s t : State) (i : Instr) (rest : List Byte), chooseEvent (resetAsserted s) (sampleInputs s) = .instruction →
    fetchInstr (sampleInputs s) = (.ok i rest, t) →
    step s = charge (cyclesOf s.cfg.family i) (exec i t)

/-- With nothing else to happen and the bytes of a well-formed instruction in RAM or ROM at the PC, the step is exec of that
instruction with the PC at the next one, its cycles counted (derived from R26, R101, R360). -/
def Obligations.StepRunsEncodedInstruction : Prop :=
  ∀ (s : State) (i : Instr), s.cfg.wf → Quiet s → i.WellFormed s.cfg.family → CodeAt s s.pc (encode i) →
    step s = charge (cyclesOf s.cfg.family i)
      (exec i (s.setPc (trunc s.cfg (s.pc + BitVec.ofNat 16 (encode i).length))))

/-- What happens at an instruction boundary: reset first, then an unmasked external request, then an unmasked timer request,
else one instruction while running, else nothing. A reset step is the reset and an interrupt step the entry, each with its
cycles counted: figures no source gives, and out of STOP the delay of 1920 and what the restart spends beyond it (derived from
R279, R305, R309, R311, R341, R362; rests on decisions D10, D11, D13, and for what the cycle count counts on the model's
choice, log entries 14 and 33). -/
def Obligations.BoundaryEvents : Prop :=
  ∀ s t : State, sampleInputs s = t →
    (resetAsserted s = true → step s =
      .next ((takeReset t).setCycles (t.cycles + (Config.cyclesReset t.cfg + stopDelay t)))) ∧
    (resetAsserted s = false → t.cc.i = false → t.pendExt = true → step s =
      .next ((interruptEntry .ext t).setCycles
        (t.cycles + (Config.interruptLatency t.cfg + Config.cyclesIntEntry t.cfg + stopDelay t)))) ∧
    (resetAsserted s = false → t.cc.i = false → t.pendExt = false → pendTimer t = true →
      step s = .next ((interruptEntry .timer t).setCycles
        (t.cycles + (Config.interruptLatency t.cfg + Config.cyclesIntEntry t.cfg + stopDelay t)))) ∧
    (resetAsserted s = false → t.cc.i = true ∨ (t.pendExt = false ∧ pendTimer t = false) → t.runState = .running →
      step s = runInstruction t) ∧
    (resetAsserted s = false → t.cc.i = true ∨ (t.pendExt = false ∧ pendTimer t = false) → t.runState ≠ .running →
      step s = .next t)

/-! ### Effective addresses -/

/-- Direct and indexed addresses of page zero and of the first 511 locations; the index sum is a 9-bit unsigned sum (derived
from R78, R80, R81). -/
def Obligations.PageZeroAddresses : Prop :=
  ∀ s : State, s.cfg.wf →
    (∀ d, (ea (.dir d) s).toNat = d.toNat) ∧ (ea .ix s).toNat = s.x.toNat ∧
    (∀ o, (ea (.ix1 o) s).toNat = o.toNat + s.x.toNat)

/-- Extended and 16-bit-offset addresses, reduced modulo the address space (derived from R66, R77, R82; rests on decision
D1). -/
def Obligations.SixteenBitAddresses : Prop :=
  ∀ s : State, s.cfg.wf →
    (∀ a : Addr, (ea (.ext a) s).toNat = a.toNat % 2 ^ s.cfg.addrBits) ∧
    (∀ o : Addr, (ea (.ix2 o) s).toNat = (o.toNat + s.x.toNat) % 2 ^ s.cfg.addrBits)

/-- A relative target is the address of the next instruction plus the sign-extended offset, reduced modulo the address space
(derived from R83; rests on decision D2). -/
def Obligations.RelativeTargets : Prop :=
  ∀ (s : State) (r : Byte), s.cfg.wf →
    ((relTarget r s).toNat : Int) = ((s.pc.toNat : Int) + r.toInt) % (2 ^ s.cfg.addrBits : Nat)

/-! ### Register/memory instructions -/

/-- R171, R172: ADC and ADD in all six forms, with the printed formulas of H, N, Z and C, which are the carries out of bit 3
and bit 7; I is kept. -/
def Obligations.AddInstructions : Prop :=
  MemoryForms.ObeyOperand ⟨.adcDir, .adcExt, .adcIx2, .adcIx1, .adcIx⟩ .adcImm 0x9 (fun m s =>
    (s.setA (s.a + m + carryByte s.cc)).setCc
      { h := printedH s.a m (s.a + m + carryByte s.cc), i := s.cc.i, n := printedN (s.a + m + carryByte s.cc),
        z := printedZ (s.a + m + carryByte s.cc), c := printedAddC s.a m (s.a + m + carryByte s.cc) }) ∧
  MemoryForms.ObeyOperand ⟨.addDir, .addExt, .addIx2, .addIx1, .addIx⟩ .addImm 0xB (fun m s =>
    (s.setA (s.a + m)).setCc
      { h := printedH s.a m (s.a + m), i := s.cc.i, n := printedN (s.a + m), z := printedZ (s.a + m),
        c := printedAddC s.a m (s.a + m) }) ∧
  (∀ (a m : Byte) (cc : CC),
    printedH a m (a + m + carryByte cc) = decide (a.toNat % 16 + m.toNat % 16 + cc.c.toNat > 15) ∧
    printedAddC a m (a + m + carryByte cc) = decide (a.toNat + m.toNat + cc.c.toNat > 255) ∧
    printedH a m (a + m) = decide (a.toNat % 16 + m.toNat % 16 > 15) ∧
    printedAddC a m (a + m) = decide (a.toNat + m.toNat > 255))

/-- R175, R176, R183, R186: SUB, SBC, CMP and CPX in all six forms, with the printed formula of C, which is the unsigned
borrow; H and I are kept, and the comparisons change no operand. -/
def Obligations.SubtractAndCompareInstructions : Prop :=
  MemoryForms.ObeyOperand ⟨.subDir, .subExt, .subIx2, .subIx1, .subIx⟩ .subImm 0x0 (fun m s =>
    (s.setA (s.a - m)).setCc (withNZC s.cc (s.a - m) (printedSubC s.a m (s.a - m)))) ∧
  MemoryForms.ObeyOperand ⟨.sbcDir, .sbcExt, .sbcIx2, .sbcIx1, .sbcIx⟩ .sbcImm 0x2 (fun m s =>
    (s.setA (s.a - m - carryByte s.cc)).setCc
      (withNZC s.cc (s.a - m - carryByte s.cc) (printedSubC s.a m (s.a - m - carryByte s.cc)))) ∧
  MemoryForms.ObeyOperand ⟨.cmpDir, .cmpExt, .cmpIx2, .cmpIx1, .cmpIx⟩ .cmpImm 0x1 (fun m s =>
    s.setCc (withNZC s.cc (s.a - m) (printedSubC s.a m (s.a - m)))) ∧
  MemoryForms.ObeyOperand ⟨.cpxDir, .cpxExt, .cpxIx2, .cpxIx1, .cpxIx⟩ .cpxImm 0x3 (fun m s =>
    s.setCc (withNZC s.cc (s.x - m) (printedSubC s.x m (s.x - m)))) ∧
  (∀ (a m : Byte) (cc : CC),
    printedSubC a m (a - m) = decide (m.toNat > a.toNat) ∧
    printedSubC a m (a - m - carryByte cc) = decide (m.toNat + cc.c.toNat > a.toNat) ∧
    printedZ (a - m) = decide (a = m))

/-- R173, R174, R177, R182: AND, BIT, EOR and ORA in all six forms; H, I and C are kept, and BIT changes no operand. -/
def Obligations.LogicInstructions : Prop :=
  MemoryForms.ObeyOperand ⟨.andDir, .andExt, .andIx2, .andIx1, .andIx⟩ .andImm 0x4 (fun m s =>
    (s.setA (s.a &&& m)).setCc (withNZ s.cc (s.a &&& m))) ∧
  MemoryForms.ObeyOperand ⟨.bitDir, .bitExt, .bitIx2, .bitIx1, .bitIx⟩ .bitImm 0x5 (fun m s =>
    s.setCc (withNZ s.cc (s.a &&& m))) ∧
  MemoryForms.ObeyOperand ⟨.eorDir, .eorExt, .eorIx2, .eorIx1, .eorIx⟩ .eorImm 0x8 (fun m s =>
    (s.setA (s.a ^^^ m)).setCc (withNZ s.cc (s.a ^^^ m))) ∧
  MemoryForms.ObeyOperand ⟨.oraDir, .oraExt, .oraIx2, .oraIx1, .oraIx⟩ .oraImm 0xA (fun m s =>
    (s.setA (s.a ||| m)).setCc (withNZ s.cc (s.a ||| m)))

/-- R180, R181: LDA and LDX in all six forms; the address of LDX is computed from the old X. -/
def Obligations.LoadInstructions : Prop :=
  MemoryForms.ObeyOperand ⟨.ldaDir, .ldaExt, .ldaIx2, .ldaIx1, .ldaIx⟩ .ldaImm 0x6 (fun m s =>
    (s.setA m).setCc (withNZ s.cc m)) ∧
  MemoryForms.ObeyOperand ⟨.ldxDir, .ldxExt, .ldxIx2, .ldxIx1, .ldxIx⟩ .ldxImm 0xE (fun m s =>
    (s.setX m).setCc (withNZ s.cc m))

/-- R184, R185: STA and STX in all five forms: one write of the register at the effective address, N and Z from it, no read;
in RAM the location then holds the byte and every other location keeps its own. -/
def Obligations.StoreInstructions : Prop :=
  MemoryForms.Obey ⟨.staDir, .staExt, .staIx2, .staIx1, .staIx⟩ 0x7 5 4 (fun mode s =>
    (memWrite s (ea mode s) s.a).setCc (withNZ s.cc s.a)) ∧
  MemoryForms.Obey ⟨.stxDir, .stxExt, .stxIx2, .stxIx1, .stxIx⟩ 0xF 5 4 (fun mode s =>
    (memWrite s (ea mode s) s.x).setCc (withNZ s.cc s.x)) ∧
  (∀ (mode : Mode) (s : State) (v : Byte) (b : Addr), kindAt s (ea mode s) = .ram →
    content (memWrite s (ea mode s) v) b = if trunc s.cfg b = trunc s.cfg (ea mode s) then v else content s b)

/-- R178: JMP in all five forms puts the effective address into the PC and does nothing else. -/
def Obligations.JumpInstruction : Prop :=
  MemoryForms.Obey ⟨.jmpDir, .jmpExt, .jmpIx2, .jmpIx1, .jmpIx⟩ 0xC 3 2 (fun mode s => s.setPc (ea mode s))

/-- R179, R249: JSR in all five forms and BSR push the return address low byte first and go to the target; with the stack in
RAM every other byte is kept, SP is two lower, and nothing else changes. -/
def Obligations.CallInstructions : Prop :=
  MemoryForms.Obey ⟨.jsrDir, .jsrExt, .jsrIx2, .jsrIx1, .jsrIx⟩ 0xD 7 5 (fun mode s =>
    (push (pchByte s.cfg s.pc) (push (pclByte s.pc) s)).setPc (ea mode s)) ∧
  (∀ (r : Byte) (s : State), exec (.bsr r) s =
    .next ((push (pchByte s.cfg s.pc) (push (pclByte s.pc) s)).setPc (relTarget r s))) ∧
  (∀ (target : Addr) (s : State), Inv s → StackIsRam s →
    CallStacked s ((push (pchByte s.cfg s.pc) (push (pclByte s.pc) s)).setPc target) target) ∧
  (∀ r, encode (.bsr r) = [0xAD, r] ∧ cyclesOf .hmos (.bsr r) = 8 ∧ cyclesOf .cmos (.bsr r) = 6)

/-! ### Read/modify/write instructions -/

/-- R203, R208, R209, R211, R212, and R202 for ASL as a second name of LSL: the shifts and rotates, bit by bit;
nine ROLs come back to the byte and C, and N after ROR is the old C. -/
def Obligations.ShiftAndRotateInstructions : Prop :=
  RmwForms.ObeyModify ⟨.asrDir, .asra, .asrx, .asrIx1, .asrIx⟩ 0x7 (fun v cc =>
    (v.extractLsb' 7 1 ++ v.extractLsb' 1 7, withNZC cc (v.extractLsb' 7 1 ++ v.extractLsb' 1 7) (v.getLsbD 0))) ∧
  RmwForms.ObeyModify ⟨.lslDir, .lsla, .lslx, .lslIx1, .lslIx⟩ 0x8 (fun v cc =>
    (v.extractLsb' 0 7 ++ 0#1, withNZC cc (v.extractLsb' 0 7 ++ 0#1) (v.getLsbD 7))) ∧
  RmwForms.ObeyModify ⟨.aslDir, .asla, .aslx, .aslIx1, .aslIx⟩ 0x8 (fun v cc =>
    (v.extractLsb' 0 7 ++ 0#1, withNZC cc (v.extractLsb' 0 7 ++ 0#1) (v.getLsbD 7))) ∧
  RmwForms.ObeyModify ⟨.lsrDir, .lsra, .lsrx, .lsrIx1, .lsrIx⟩ 0x4 (fun v cc =>
    (0#1 ++ v.extractLsb' 1 7,
      { cc with n := false, z := printedZ (0#1 ++ v.extractLsb' 1 7), c := v.getLsbD 0 })) ∧
  RmwForms.ObeyModify ⟨.rolDir, .rola, .rolx, .rolIx1, .rolIx⟩ 0x9 (fun v cc =>
    (v.extractLsb' 0 7 ++ BitVec.ofBool cc.c, withNZC cc (v.extractLsb' 0 7 ++ BitVec.ofBool cc.c) (v.getLsbD 7))) ∧
  RmwForms.ObeyModify ⟨.rorDir, .rora, .rorx, .rorIx1, .rorIx⟩ 0x6 (fun v cc =>
    (BitVec.ofBool cc.c ++ v.extractLsb' 1 7, withNZC cc (BitVec.ofBool cc.c ++ v.extractLsb' 1 7) (v.getLsbD 0))) ∧
  (∀ (v : Byte) (c : Bool),
    Nat.iterate (fun p : Byte × Bool => (p.1.extractLsb' 0 7 ++ BitVec.ofBool p.2, p.1.getLsbD 7)) 9 (v, c) = (v, c) ∧
    printedN (BitVec.ofBool c ++ v.extractLsb' 1 7) = c)

/-- NEG, COM, DEC, INC and CLR in all five forms, by the arithmetic of their rules; DEC, INC and CLR keep C (derived from
R204, R205, R206, R207, R210; that CLR reads first rests on decision D8). -/
def Obligations.ArithmeticModifyInstructions : Prop :=
  RmwForms.ObeyModify ⟨.negDir, .nega, .negx, .negIx1, .negIx⟩ 0x0 (fun v cc =>
    (BitVec.ofNat 8 (256 - v.toNat), withNZC cc (BitVec.ofNat 8 (256 - v.toNat)) (decide (v.toNat ≠ 0)))) ∧
  RmwForms.ObeyModify ⟨.comDir, .coma, .comx, .comIx1, .comIx⟩ 0x3 (fun v cc =>
    (BitVec.ofNat 8 (255 - v.toNat), withNZC cc (BitVec.ofNat 8 (255 - v.toNat)) true)) ∧
  RmwForms.ObeyModify ⟨.decDir, .deca, .decx, .decIx1, .decIx⟩ 0xA (fun v cc =>
    (BitVec.ofNat 8 (v.toNat + 255), withNZ cc (BitVec.ofNat 8 (v.toNat + 255)))) ∧
  RmwForms.ObeyModify ⟨.incDir, .inca, .incx, .incIx1, .incIx⟩ 0xC (fun v cc =>
    (BitVec.ofNat 8 (v.toNat + 1), withNZ cc (BitVec.ofNat 8 (v.toNat + 1)))) ∧
  RmwForms.ObeyModify ⟨.clrDir, .clra, .clrx, .clrIx1, .clrIx⟩ 0xF (fun _ cc => (0, { cc with n := false, z := true }))

/-- TST in all five forms sets N and Z from the byte, writes nothing back and keeps H, I and C (derived from R213; that there
is no write rests on decision D8). -/
def Obligations.TestInstruction : Prop :=
  RmwForms.Obey ⟨.tstDir, .tsta, .tstx, .tstIx1, .tstIx⟩ 0xD 4
    (fun mode s => (afterRead s (ea mode s)).setCc (withNZ s.cc (readByte s (ea mode s))))
    (fun s => s.setCc (withNZ s.cc s.a)) (fun s => s.setCc (withNZ s.cc s.x))

/-! ### Branches -/

/-- R231, R232, R233, R236, R237, R240, R241, R245: the branches on C and Z, BHS and BLO being second names; after a
comparison or subtraction they compare unsigned numbers. -/
def Obligations.CarryAndZeroBranches : Prop :=
  BranchObeys .bhi 0x22 (fun s => s.cc.c = false ∧ s.cc.z = false) ∧
  BranchObeys .bls 0x23 (fun s => s.cc.c = true ∨ s.cc.z = true) ∧
  BranchObeys .bcc 0x24 (fun s => s.cc.c = false) ∧
  BranchObeys .bhs 0x24 (fun s => s.cc.c = false) ∧
  BranchObeys .bcs 0x25 (fun s => s.cc.c = true) ∧
  BranchObeys .blo 0x25 (fun s => s.cc.c = true) ∧
  BranchObeys .bne 0x26 (fun s => s.cc.z = false) ∧
  BranchObeys .beq 0x27 (fun s => s.cc.z = true) ∧
  (∀ (a m : Byte) (cc f : CC), f = withNZC cc (a - m) (printedSubC a m (a - m)) →
    ((f.c = false ∧ f.z = false) ↔ a.toNat > m.toNat) ∧ ((f.c = true ∨ f.z = true) ↔ a.toNat ≤ m.toNat) ∧
    (f.c = false ↔ a.toNat ≥ m.toNat) ∧ (f.c = true ↔ a.toNat < m.toNat) ∧
    (f.z = true ↔ a = m) ∧ (f.z = false ↔ a ≠ m))

/-- R234, R235, R242, R243, R244, R246, R247, R248, and BIL and BIH by the level of the pin alone (R238, R239). -/
def Obligations.OtherBranches : Prop :=
  BranchObeys .bra 0x20 (fun _ => True) ∧
  BranchObeys .brn 0x21 (fun _ => False) ∧
  BranchObeys .bhcc 0x28 (fun s => s.cc.h = false) ∧
  BranchObeys .bhcs 0x29 (fun s => s.cc.h = true) ∧
  BranchObeys .bpl 0x2A (fun s => s.cc.n = false) ∧
  BranchObeys .bmi 0x2B (fun s => s.cc.n = true) ∧
  BranchObeys .bmc 0x2C (fun s => s.cc.i = false) ∧
  BranchObeys .bms 0x2D (fun s => s.cc.i = true) ∧
  BranchObeys .bil 0x2E (fun s => s.intPin = false) ∧
  BranchObeys .bih 0x2F (fun s => s.intPin = true)

/-! ### Bit manipulation -/

/-- BSET n reads the byte and writes it back with bit n set; in RAM every other bit of it and every other location are kept; no
flag changes (derived from R264; that it always writes the whole byte, also when the bit is already set, rests on decision
D9, log entry 19). -/
def Obligations.BitSetInstruction : Prop :=
  (∀ (n : BitVec 3) (d : Byte) (s : State), exec (.bset n d) s =
    .next (memWrite (afterRead s (ea (.dir d) s)) (ea (.dir d) s)
      (readByte s (ea (.dir d) s) ||| (1 : Byte) <<< n.toNat))) ∧
  (∀ (n : BitVec 3) (d : Byte) (s : State), kindAt s (ea (.dir d) s) = .ram → ∃ t, exec (.bset n d) s = .next t ∧
    t = s.setMem t.mem ∧
    (∀ k : Nat, k < 8 → (content t (ea (.dir d) s)).getLsbD k =
      (decide (k = n.toNat) || (content s (ea (.dir d) s)).getLsbD k)) ∧
    ∀ b : Addr, trunc s.cfg b ≠ trunc s.cfg (ea (.dir d) s) → content t b = content s b) ∧
  (∀ n d, encode (.bset n d) = [BitVec.ofNat 8 (0x10 + 2 * n.toNat), d] ∧
    cyclesOf .hmos (.bset n d) = 7 ∧ cyclesOf .cmos (.bset n d) = 5)

/-- BCLR n reads the byte and writes it back with bit n clear; in RAM every other bit of it and every other location are kept;
no flag changes (derived from R261, whose own lines are lost in the source; that it always writes rests on decision D9). -/
def Obligations.BitClearInstruction : Prop :=
  (∀ (n : BitVec 3) (d : Byte) (s : State), exec (.bclr n d) s =
    .next (memWrite (afterRead s (ea (.dir d) s)) (ea (.dir d) s)
      (readByte s (ea (.dir d) s) &&& ~~~((1 : Byte) <<< n.toNat)))) ∧
  (∀ (n : BitVec 3) (d : Byte) (s : State), kindAt s (ea (.dir d) s) = .ram → ∃ t, exec (.bclr n d) s = .next t ∧
    t = s.setMem t.mem ∧
    (∀ k : Nat, k < 8 → (content t (ea (.dir d) s)).getLsbD k =
      (!decide (k = n.toNat) && (content s (ea (.dir d) s)).getLsbD k)) ∧
    ∀ b : Addr, trunc s.cfg b ≠ trunc s.cfg (ea (.dir d) s) → content t b = content s b) ∧
  (∀ n d, encode (.bclr n d) = [BitVec.ofNat 8 (0x11 + 2 * n.toNat), d] ∧
    cyclesOf .hmos (.bclr n d) = 7 ∧ cyclesOf .cmos (.bclr n d) = 5)

/-- R262, R263: BRCLR and BRSET copy the tested bit to C, change no other flag and no byte, and go to the target when the bit
is clear (BRCLR) or set (BRSET). -/
def Obligations.BitTestBranches : Prop :=
  (∀ (n : BitVec 3) (d r : Byte) (s : State), (readByte s (ea (.dir d) s)).getLsbD n.toNat = true →
    exec (.brset n d r) s = .next (((afterRead s (ea (.dir d) s)).setCc { s.cc with c := true }).setPc (relTarget r s)) ∧
    exec (.brclr n d r) s = .next ((afterRead s (ea (.dir d) s)).setCc { s.cc with c := true })) ∧
  (∀ (n : BitVec 3) (d r : Byte) (s : State), (readByte s (ea (.dir d) s)).getLsbD n.toNat = false →
    exec (.brset n d r) s = .next ((afterRead s (ea (.dir d) s)).setCc { s.cc with c := false }) ∧
    exec (.brclr n d r) s =
      .next (((afterRead s (ea (.dir d) s)).setCc { s.cc with c := false }).setPc (relTarget r s))) ∧
  (∀ n d r, encode (.brset n d r) = [BitVec.ofNat 8 (2 * n.toNat), d, r] ∧
    encode (.brclr n d r) = [BitVec.ofNat 8 (1 + 2 * n.toNat), d, r] ∧
    cyclesOf .hmos (.brset n d r) = 10 ∧ cyclesOf .cmos (.brset n d r) = 5 ∧
    cyclesOf .hmos (.brclr n d r) = 10 ∧ cyclesOf .cmos (.brclr n d r) = 5)

/-! ### Control instructions -/

/-- R271, R277, R281, R282: CLC, SEC, TAX, TXA change what they name and nothing else. -/
def Obligations.CarryAndTransferInstructions : Prop :=
  (∀ s : State, exec .clc s = .next (s.setCc { s.cc with c := false })) ∧ OneByte .clc 0x98 2 2 ∧
  (∀ s : State, exec .sec s = .next (s.setCc { s.cc with c := true })) ∧ OneByte .sec 0x99 2 2 ∧
  (∀ s : State, exec .tax s = .next (s.setX s.a)) ∧ OneByte .tax 0x97 2 2 ∧
  (∀ s : State, exec .txa s = .next (s.setA s.x)) ∧ OneByte .txa 0x9F 2 2

/-- R278: SEI sets I and nothing else; with I set no boundary takes a maskable interrupt, reset is still taken, and SWI still
runs. -/
def Obligations.SetMaskInstruction : Prop :=
  (∀ s : State, exec .sei s = .next (s.setCc { s.cc with i := true })) ∧ OneByte .sei 0x9B 2 2 ∧
  (∀ (t : State) (reset : Bool) (src : Source), t.cc.i = true → chooseEvent reset t ≠ .interrupt src) ∧
  (∀ t : State, t.cc.i = true → chooseEvent true t = .reset) ∧
  (∀ t : State, t.cc.i = true → ∃ u, exec .swi t = .next u)

/-- CLI clears I and nothing else, and a request already pending is taken at the very next boundary, the external one first
(derived from R272; the very next boundary rests on decision D11, log entry 20, the order on decision D13, log entry 22). -/
def Obligations.ClearMaskInstruction : Prop :=
  (∀ s : State, exec .cli s = .next (s.setCc { s.cc with i := false })) ∧ OneByte .cli 0x9A 2 2 ∧
  (∀ s t : State, exec .cli s = .next t → s.pendExt = true → chooseEvent false t = .interrupt .ext) ∧
  (∀ s t : State, exec .cli s = .next t → s.pendExt = false → pendTimer s = true →
    chooseEvent false t = .interrupt .timer)

/-- NOP changes nothing, RSP puts $7F into SP and changes nothing else (derived from R273, R274; the high nibbles of the two
opcodes are from outside the source, R103). -/
def Obligations.NopAndResetStackPointer : Prop :=
  (∀ s : State, exec .nop s = .next s) ∧ OneByte .nop 0x9D 2 2 ∧
  (∀ s : State, exec .rsp s = .next (s.setSp 0x7F)) ∧ OneByte .rsp 0x9C 2 2

/-- R276: RTS pulls the high byte and the low byte of the PC, reduced to the address width; with the stack in RAM they are
the two bytes above SP, SP is two higher, and nothing else changes. -/
def Obligations.ReturnFromSubroutineInstruction : Prop :=
  (∀ s : State, exec .rts s =
    .next ((afterPulls 2 s).setPc (trunc s.cfg (wordOf (pull s).1 (pull (afterPulls 1 s)).1)))) ∧
  (∀ s : State, Inv s → StackIsRam s → exec .rts s =
    .next ((s.setSp (spAbove s.cfg 2 s.sp)).setPc
      (trunc s.cfg (wordOf (content s (spAbove s.cfg 1 s.sp)) (content s (spAbove s.cfg 2 s.sp)))))) ∧
  OneByte .rts 0x81 6 6

/-- RTI pulls CC, A, X, and the high and low byte of the PC; I is clear after it exactly when the stacked bit is, and a request
then pending is taken at the very next boundary, the external one first; with the stack in RAM the five bytes are those above
SP, SP is five higher, and nothing else changes (derived from R275; the very next boundary rests on decision D11, log entry
20, the order on decision D13, log entry 22). -/
def Obligations.ReturnFromInterruptInstruction : Prop :=
  (∀ s : State, exec .rti s =
    .next (((((afterPulls 5 s).setCc (ccOfByte (pull s).1)).setA (pull (afterPulls 1 s)).1).setX
      (pull (afterPulls 2 s)).1).setPc
      (trunc s.cfg (wordOf (pull (afterPulls 3 s)).1 (pull (afterPulls 4 s)).1)))) ∧
  (∀ s t : State, exec .rti s = .next t → t.cc.i = (pull s).1.getLsbD 3 ∧
    ((pull s).1.getLsbD 3 = false → s.pendExt = true → chooseEvent false t = .interrupt .ext) ∧
    ((pull s).1.getLsbD 3 = false → s.pendExt = false → pendTimer s = true →
      chooseEvent false t = .interrupt .timer)) ∧
  (∀ s : State, Inv s → StackIsRam s → exec .rti s =
    .next (((((s.setCc (ccOfByte (content s (spAbove s.cfg 1 s.sp)))).setA (content s (spAbove s.cfg 2 s.sp))).setX
      (content s (spAbove s.cfg 3 s.sp))).setSp (spAbove s.cfg 5 s.sp)).setPc
      (trunc s.cfg (wordOf (content s (spAbove s.cfg 4 s.sp)) (content s (spAbove s.cfg 5 s.sp)))))) ∧
  OneByte .rti 0x80 9 9

/-- R280: SWI pushes the frame, sets I whatever it was and loads the PC from the vector at N_TOP - 3, high byte first; with the
stack in RAM, the vector in memory and at least three counting bits in SP (so that the five slots are distinct) the frame
stands in its slots and nothing else changes. -/
def Obligations.SoftwareInterruptInstruction : Prop :=
  (∀ s u : State, (framePushed s).setCc { s.cc with i := true } = u → exec .swi s =
    .next ((afterRead (afterRead u (vecSwi s.cfg)) (vecSwi s.cfg + 1)).setPc
      (trunc s.cfg (wordOf (readByte u (vecSwi s.cfg))
        (readByte (afterRead u (vecSwi s.cfg)) (vecSwi s.cfg + 1)))))) ∧
  (∀ s : State, Inv s → 3 ≤ s.cfg.spBits → StackIsRam s → VectorIsMemory s (vecSwi s.cfg) → ∃ t, exec .swi s = .next t ∧
    FrameStacked s t (vecSwi s.cfg) ∧
    t = (((s.setMem t.mem).setSp t.sp).setCc { s.cc with i := true }).setPc t.pc) ∧
  (∀ c : Config, c.wf → (vecSwi c).toNat = 2 ^ c.addrBits - 1 - 3) ∧
  OneByte .swi 0x83 11 10

/-- An SWI and then an RTI, on the same SP and with the five bytes of the frame as the SWI left them, resume after the SWI with
A, X, the flags (I as it was) and SP as they were, whatever else the handler changed, other bytes of memory included (derived
from R275, R280, R302). -/
def Obligations.RtiUndoesSwi : Prop :=
  ∀ s t u : State, Inv s → 3 ≤ s.cfg.spBits → StackIsRam s → exec .swi s = .next t →
    u.cfg = t.cfg → u.sp = t.sp →
    (∀ k : Nat, k < 5 → content u (spBelow s.cfg k s.sp) = content t (spBelow s.cfg k s.sp)) →
    t.cc.i = true ∧ exec .rti u = .next (withRegistersOf u s)

/-- A hardware interrupt entry and then an RTI, on the same SP and with the five bytes of the frame as the entry left them,
resume the interrupted program with all its registers, whatever else the handler changed, other bytes of memory included
(derived from R311, R312; rests on decision D14). -/
def Obligations.RtiUndoesInterruptEntry : Prop :=
  ∀ (src : Source) (s t u : State), Inv s → 3 ≤ s.cfg.spBits → StackIsRam s → interruptEntry src s = t →
    u.cfg = t.cfg → u.sp = t.sp →
    (∀ k : Nat, k < 5 → content u (spBelow s.cfg k s.sp) = content t (spBelow s.cfg k s.sp)) →
    t.cc.i = true ∧ exec .rti u = .next (withRegistersOf u s)

/-- A call and then an RTS, on the same SP and with the two bytes of the return address as the call left them, come back to the
instruction after the call with SP as it was, whatever else the subroutine changed, other bytes of memory included (derived
from R33, R179, R249, R276). -/
def Obligations.RtsUndoesCall : Prop :=
  ∀ (target : Addr) (s u : State), Inv s → StackIsRam s →
    u.cfg = s.cfg → u.sp = (callTo target s).sp →
    (∀ k : Nat, k < 2 → content u (spBelow s.cfg k s.sp) = content (callTo target s) (spBelow s.cfg k s.sp)) →
    exec .rts u = .next ((u.setSp s.sp).setPc s.pc)

/-- STOP on CMOS clears I, clears the prescaler, disables the timer interrupt, clears its flag and enters STOPPED, keeping
everything else; on HMOS the opcode has no instruction (derived from R279, R284; I cleared is the choice of C1, HMOS decision
D23). -/
def Obligations.StopInstruction : Prop :=
  (∀ s : State, s.cfg.family = .cmos → ∃ t, exec .stop s = .next t ∧
    t = ((s.setCc { s.cc with i := false }).setTimer t.timer).setRunState .stopped ∧
    t.timer.prescaler = 0 ∧ t.timer.enable = false ∧ t.timer.flag = false ∧ t.timer.counter = s.timer.counter ∧
    pendTimer t = false) ∧
  (∀ s : State, s.cfg.family = .hmos → exec .stop s = .fault (.undefinedOpcode 0x8E)) ∧
  encode .stop = [0x8E] ∧ cyclesOf .cmos .stop = 2

/-- WAIT on CMOS clears I and enters WAITING, the timer untouched, keeping everything else; on HMOS the opcode has no
instruction (derived from R283, R284; I cleared is the choice of C1, HMOS decision D23). -/
def Obligations.WaitInstruction : Prop :=
  (∀ s : State, s.cfg.family = .cmos →
    exec .wait s = .next ((s.setCc { s.cc with i := false }).setRunState .waiting)) ∧
  (∀ s : State, s.cfg.family = .hmos → exec .wait s = .fault (.undefinedOpcode 0x8F)) ∧
  encode .wait = [0x8F] ∧ cyclesOf .cmos .wait = 2

/-! ### Low power, interrupts, inputs, reset -/

/-- From STOPPED only reset and the external request lead out, from WAITING the timer request too; each leads to RUNNING at
once, the external one first, and with none nothing but the inputs moves (derived from R279, R283, R315; rests on decisions
D12, D15, and for the order on D13, log entry 22). -/
def Obligations.LowPowerWakeUp : Prop :=
  ∀ s t : State, Inv s → s.runState ≠ .running → step s = .next t →
    (resetAsserted s = true ∧ t = resetStep (sampleInputs s) ∧ t.runState = .running) ∨
    (resetAsserted s = false ∧ (sampleInputs s).pendExt = true ∧ t = interruptStep .ext (sampleInputs s) ∧
      t.runState = .running) ∨
    (resetAsserted s = false ∧ s.runState = .waiting ∧ (sampleInputs s).pendExt = false ∧
      pendTimer (sampleInputs s) = true ∧ t = interruptStep .timer (sampleInputs s) ∧ t.runState = .running) ∨
    (resetAsserted s = false ∧ (sampleInputs s).pendExt = false ∧ pendTimer (sampleInputs s) = false ∧
      t = sampleInputs s ∧ t.runState = s.runState)

/-- Hardware interrupt entry, with the stack in RAM, its vector in memory and at least three counting bits in SP: the frame
with the PC of the instruction not yet executed, I set, running, the PC from the source's vector; the external latch is cleared
by the external entry only; the timer is untouched; nothing else changes (derived from R304, R310, R311, R315; rests on
decisions D12, D14, D15). -/
def Obligations.HardwareInterruptEntry : Prop :=
  ∀ (src : Source) (s : State), Inv s → 3 ≤ s.cfg.spBits → StackIsRam s → VectorIsMemory s (sourceVector s.cfg src) →
    ∃ t, interruptEntry src s = t ∧ FrameStacked s t (sourceVector s.cfg src) ∧
      t = (((((s.setMem t.mem).setSp t.sp).setCc { s.cc with i := true }).setPc t.pc).setPendExt
        (match src with | .ext => false | .timer => s.pendExt)).setRunState .running

/-- The inputs of a boundary: the latch is set by each high-to-low transition of the pin and by nothing else, whatever I is;
the timer device moves as the environment says, except while STOPPED; nothing else changes (derived from R303, R304, R279;
rests on decision D15). -/
def Obligations.InputsOfABoundary : Prop :=
  ∀ (s : State) (i : Input) (rest : List Input), s.inputs = i :: rest → ∃ t, sampleInputs s = t ∧
    t = (((s.setPendExt t.pendExt).setIntPin i.intPin).setTimer t.timer).setInputs rest ∧
    (t.pendExt = true ↔ s.pendExt = true ∨ i.pulse = true ∨ (s.intPin = true ∧ i.intPin = false)) ∧
    (s.runState = .stopped ∨ i.timer = none → t.timer = s.timer) ∧
    (∀ v, s.runState ≠ .stopped → i.timer = some v → t.timer = v)

/-- Reset, with its vector in memory: SP = $7F, I = 1, no request pending, running, the PC from the reset vector; A, X, H, N,
Z, C and memory are kept, and nothing is pushed (derived from R341; I = 1 and the requests are decision D7; that I/O and
write-only locations keep their content with the rest of memory is the model's choice, log entry 40). -/
def Obligations.ResetTaken : Prop :=
  ∀ s : State, VectorIsMemory s s.cfg.vecReset → ∃ t, takeReset s = t ∧
    t = ((((((s.setSp 0x7F).setCc { s.cc with i := true }).setPendExt false).setTimer t.timer).setDraws
      t.draws).setRunState .running).setPc
      (trunc s.cfg (wordOf (content s s.cfg.vecReset) (content s (s.cfg.vecReset + 1)))) ∧
    pendTimer t = false

/-- The state after reset: SP = $7F, I = 1, nothing pending, running, and the PC is what the reset vector of its memory reads
as (derived from R55, R341; I = 1 and the requests are decision D7; the member, and what its unwritten memory reads as,
are the model's choice, log entries 1 and 3). -/
def Obligations.StateAfterReset : Prop :=
  State.reset.sp = 0x7F ∧ State.reset.cc.i = true ∧ State.reset.pendExt = false ∧ pendTimer State.reset = false ∧
  State.reset.runState = .running ∧
  State.reset.pc = trunc State.reset.cfg
    (wordOf (readByte State.reset State.reset.cfg.vecReset) (readByte State.reset (State.reset.cfg.vecReset + 1)))

/-! ### Whole-machine statements -/

/-- The state after reset meets the invariant (sanity; the member of that state is the model's choice, log entry 1). -/
def Obligations.ResetMeetsInvariant : Prop := Inv State.reset

/-- Every step keeps the invariant: the PC and SP stay in range, the memory stays canonical and inside the address space, HMOS
members never leave RUNNING, and the low-power states stay unmasked with no timer request while STOPPED (derived from R25,
R30, R32, R52, R60, R279, R283). -/
def Obligations.StepKeepsInvariant : Prop :=
  ∀ s t : State, Inv s → step s = .next t → Inv t

/-- No step changes the member's parameters (derived from R6). -/
def Obligations.StepKeepsMember : Prop :=
  ∀ s t : State, step s = .next t → t.cfg = s.cfg

/-- Every defined opcode completes for every operand value and every machine state; the one thing that stops a step is that the
opcode byte it fetches has no instruction, and no step is refused (derived from R301; that such a byte is a fault of the model,
and $8E and $8F on HMOS with it, is decisions D16 and D23, log entry 25). -/
def Obligations.NoInstructionFaults : Prop :=
  (∀ (i : Instr) (s : State), i.availableIn s.cfg.family = true → ∃ t, exec i s = .next t) ∧
  (∀ (s : State) (f : Fault), step s = .fault f →
    ∃ op : Byte, op = readByte (sampleInputs s) (sampleInputs s).pc ∧ f = .undefinedOpcode op ∧
      op ∈ undefinedOpcodes s.cfg.family) ∧
  (∀ (s : State) (r : Refusal), step s ≠ .refused r)

/-- The effect of every instruction on H, I, N, Z and C is the one of the table of R47 (derived from R47). -/
def Obligations.FlagTable : Prop :=
  ∀ (i : Instr) (s t : State), exec i s = .next t →
    (flagRow (opOf i)).h.Allows s.cc.h t.cc.h ∧ (flagRow (opOf i)).i.Allows s.cc.i t.cc.i ∧
    (flagRow (opOf i)).n.Allows s.cc.n t.cc.n ∧ (flagRow (opOf i)).z.Allows s.cc.z t.cc.z ∧
    (flagRow (opOf i)).c.Allows s.cc.c t.cc.c

/-- Only the instructions R21 lists write A, only those R22 lists write X, and only jumps, calls, returns, SWI and branches
leave the PC elsewhere than at the next instruction (derived from R21, R22, R26). -/
def Obligations.RegisterWriters : Prop :=
  ∀ (i : Instr) (s t : State), exec i s = .next t →
    (writesA i = false → t.a = s.a) ∧ (writesX i = false → t.x = s.x) ∧
    (transfersControl (opOf i) = false → t.pc = s.pc)

/-- SP changes by exactly the pushes and pulls of R37: two for BSR, JSR and RTS, five for SWI, RTI and interrupt entry, $7F
for RSP and reset, not at all otherwise (derived from R37). -/
def Obligations.StackPointerChanges : Prop :=
  (∀ (i : Instr) (s t : State), exec i s = .next t → t.sp = spAfter i s) ∧
  (∀ (src : Source) (s : State), (interruptEntry src s).sp = spBelow s.cfg 5 s.sp) ∧
  (∀ s : State, (takeReset s).sp = 0x7F)

/-- Every byte of memory is unchanged except at the addresses the instruction stores to: the effective address of a store or
of a read/modify/write, the stack slots of a call or of SWI, none for every other instruction (derived from R68). -/
def Obligations.MemoryFrame : Prop :=
  ∀ (i : Instr) (s t : State) (b : Addr), exec i s = .next t →
    (∀ p ∈ storesTo i s, trunc s.cfg b ≠ trunc s.cfg p) → content t b = content s b

/-- No instruction changes the member, the request latch, the pin, the inputs to come or the cycle count; only STOP and WAIT
change the run state; free values are drawn, never given back (derived from R52, R279, R283, R303). That only STOP changes the
timer is the model's choice, log entries 6 and 27: R304 says that the program's stores to the timer control register change
flag and enable too, and the model leaves that effect to the environment's inputs. -/
def Obligations.HiddenStateFrame : Prop :=
  ∀ (i : Instr) (s t : State), exec i s = .next t →
    t.cfg = s.cfg ∧ t.pendExt = s.pendExt ∧ t.intPin = s.intPin ∧ t.inputs = s.inputs ∧ t.cycles = s.cycles ∧
    (i ≠ .stop → t.timer = s.timer) ∧ (i ≠ .stop → i ≠ .wait → t.runState = s.runState) ∧ s.draws ≤ t.draws

/-- No instruction reads the request latch, the inputs to come or the cycle count: two states that differ only there run alike
(derived from R52, R303, R362). -/
def Obligations.LatchAndCyclesUnreadable : Prop :=
  ∀ (i : Instr) (s : State) (p : Bool) (ins : List Input) (k : Nat),
    exec i (((s.setPendExt p).setInputs ins).setCycles k) =
      onNext (fun t => ((t.setPendExt p).setInputs ins).setCycles k) (exec i s)

/-! ### The stack, the stacked forms, memory -/

/-- A pull after a push gives the byte back and restores SP; SP moves by one inside the stack area and wraps at its ends
(derived from R30, R32, R34, R35; the wrap of a pull is decision D3). -/
def Obligations.PushThenPull : Prop :=
  (∀ (s : State) (v : Byte), Inv s → kindAt s s.sp = .ram →
    (pull (push v s)).1 = v ∧ (pull (push v s)).2.sp = s.sp) ∧
  (∀ s : State, Inv s →
    (spDown s.cfg s.sp).toNat = (if s.sp.toNat = stackLow s.cfg then 0x7F else s.sp.toNat - 1) ∧
    (spUp s.cfg s.sp).toNat = (if s.sp.toNat = 0x7F then stackLow s.cfg else s.sp.toNat + 1))

/-- The stacked PC is PCL and a PCH whose bits above the PC are ones on HMOS and zeros on CMOS; pulled, only the PC's own bits
come back (derived from R33 and R25; the fill by family is the resolution of conflict C2, log entry 31). -/
def Obligations.StackedPcForm : Prop :=
  ∀ (c : Config) (pc : Addr), c.wf → pc.toNat < 2 ^ c.addrBits →
    (pclByte pc).toNat = pc.toNat % 256 ∧
    (∀ k : Nat, k < 8 → (pchByte c pc).getLsbD k =
      if k < c.addrBits - 8 then pc.getLsbD (k + 8) else decide (c.family = .hmos)) ∧
    trunc c (wordOf (pchByte c pc) (pclByte pc)) = pc ∧
    (∀ b1 b2 l : Byte, (∀ k : Nat, k < c.addrBits - 8 → b1.getLsbD k = b2.getLsbD k) →
      trunc c (wordOf b1 l) = trunc c (wordOf b2 l))

/-- The condition code register as a byte is 1 1 1 H I N Z C; pulled, its three top bits are ignored (derived from R40, R41; that
they are ignored is the spec's own inference, U21). -/
def Obligations.StackedFlagsForm : Prop :=
  (∀ cc : CC, (ccByte cc).getLsbD 7 = true ∧ (ccByte cc).getLsbD 6 = true ∧ (ccByte cc).getLsbD 5 = true ∧
    (ccByte cc).getLsbD 4 = cc.h ∧ (ccByte cc).getLsbD 3 = cc.i ∧ (ccByte cc).getLsbD 2 = cc.n ∧
    (ccByte cc).getLsbD 1 = cc.z ∧ (ccByte cc).getLsbD 0 = cc.c) ∧
  (∀ cc : CC, ccOfByte (ccByte cc) = cc) ∧
  (∀ b : Byte, ccOfByte b = ccOfByte (b &&& 0x1F))

/-- What the member has at a location decides its accesses: RAM reads back what was written, ROM keeps its content, a
write-only register takes a write and reads $FF, an I/O register takes a write, an absent location takes none; a read of an I/O
or absent location is the environment's next byte whatever was written there, and is the one read that changes anything, the
count of such reads; no access touches another location (derived from R67; ROM and absent writes are decision D5; that an I/O or
write-only location holds the byte last written is the model's choice, log entry 6, and so is the free byte, log entry 4). -/
def Obligations.AccessByKind : Prop :=
  ∀ (s : State) (addr : Addr) (v : Byte),
    (kindAt s addr = .ram → readByte (memWrite s addr v) addr = v ∧ afterRead s addr = s) ∧
    (kindAt s addr = .rom → readByte (memWrite s addr v) addr = content s addr ∧ afterRead s addr = s) ∧
    (kindAt s addr = .writeOnly → readByte s addr = 0xFF ∧ content (memWrite s addr v) addr = v ∧
      afterRead s addr = s) ∧
    (kindAt s addr = .io → content (memWrite s addr v) addr = v) ∧
    (kindAt s addr = .absent → memWrite s addr v = s) ∧
    (kindAt s addr = .io ∨ kindAt s addr = .absent →
      readByte s addr = Config.inputByte (trunc s.cfg addr).toNat s.draws ∧
      readByte (memWrite s addr v) addr = readByte s addr ∧ afterRead s addr = s.setDraws (s.draws + 1)) ∧
    (∀ b : Addr, trunc s.cfg b ≠ trunc s.cfg addr → content (memWrite s addr v) b = content s b) ∧
    (∀ b : Addr, content (afterRead s addr) b = content s b)

/-! ### The restart delay of STOP -/

/-- A step out of STOPPED goes on sleeping, or it runs again with at least the 1920 cycles of the restart delay counted; a reset
or an interrupt entry out of RUNNING or WAITING counts none of that delay, only the figures no source gives (derived from R279,
R362; that a sleeping step counts nothing, and where the free figures stand, is the model's choice, log entries 14 and 33). -/
def Obligations.StopRestartDelay : Prop :=
  (∀ s t : State, s.runState = .stopped → step s = .next t →
    (t.runState = .stopped ∧ t.cycles = s.cycles) ∨ (t.runState = .running ∧ s.cycles + 1920 ≤ t.cycles)) ∧
  (∀ s t : State, s.runState ≠ .stopped → resetAsserted s = true → step s = .next t →
    t.cycles = s.cycles + Config.cyclesReset s.cfg) ∧
  (∀ (s t : State) (src : Source), s.runState ≠ .stopped →
    chooseEvent (resetAsserted s) (sampleInputs s) = .interrupt src → step s = .next t →
    t.cycles = s.cycles + (Config.interruptLatency s.cfg + Config.cyclesIntEntry s.cfg))
end

