-- ==== Sys2Proof/Laws/Memory.lean ====
section
/-! SUPPORT. The laws of memory: read after write, and the canonical form kept by every write. -/

namespace Sys2Proof.Machine

theorem Memory.read_erase_same (m : Memory) (a : Nat) : (m.erase a).read a = Memory.unlisted := by
  induction m with
  | nil => rfl
  | cons p m ih =>
    obtain ⟨b, v⟩ := p
    by_cases h : b = a
    · simpa [Memory.erase, h] using ih
    · simpa [Memory.erase, h, Memory.read] using ih

theorem Memory.read_erase_other (m : Memory) {a b : Nat} (hab : b ≠ a) : (m.erase a).read b = m.read b := by
  induction m with
  | nil => rfl
  | cons p m ih =>
    obtain ⟨k, v⟩ := p
    by_cases h : k = a
    · subst h
      simpa [Memory.erase, Memory.read, Ne.symm hab] using ih
    · by_cases hk : k = b
      · simp [Memory.erase, Memory.read, hk, hab]
      · simpa [Memory.erase, Memory.read, h, hk] using ih

theorem Memory.read_insertCell_same (m : Memory) (a : Nat) (v : Byte) (h : ∀ p ∈ m, p.1 ≠ a) :
    (m.insertCell a v).read a = v := by
  induction m with
  | nil => simp [Memory.insertCell, Memory.read]
  | cons p m ih =>
    obtain ⟨b, w⟩ := p
    have hb : b ≠ a := h (b, w) (by simp)
    unfold Memory.insertCell
    split
    · simp [Memory.read]
    · simp only [Memory.read, hb, if_false]
      exact ih fun p hp => h p (by simp [hp])

theorem Memory.read_insertCell_other (m : Memory) {a b : Nat} (v : Byte) (hab : b ≠ a) :
    (m.insertCell a v).read b = m.read b := by
  induction m with
  | nil => simp [Memory.insertCell, Memory.read, Ne.symm hab]
  | cons p m ih =>
    obtain ⟨k, w⟩ := p
    unfold Memory.insertCell
    split
    · simp [Memory.read, Ne.symm hab]
    · by_cases hk : k = b
      · simp [Memory.read, hk]
      · simpa [Memory.read, hk] using ih

theorem Memory.erase_ne (m : Memory) (a : Nat) : ∀ p ∈ m.erase a, p.1 ≠ a := by
  intro p hp
  simpa [Memory.erase] using (List.mem_filter.1 hp).2

/-- A read of the address written gives the byte written. -/
@[simp] theorem Memory.read_write_same (m : Memory) (a : Nat) (v : Byte) : (m.write a v).read a = v := by
  unfold Memory.write
  split
  · next h => rw [h, Memory.read_erase_same]
  · exact Memory.read_insertCell_same _ _ _ (Memory.erase_ne m a)

/-- A write leaves every other address alone. -/
theorem Memory.read_write_other (m : Memory) {a b : Nat} (v : Byte) (hab : b ≠ a) :
    (m.write a v).read b = m.read b := by
  unfold Memory.write
  split
  · exact Memory.read_erase_other m hab
  · rw [Memory.read_insertCell_other _ _ hab, Memory.read_erase_other m hab]

/-- Both laws at once. -/
theorem Memory.read_write (m : Memory) (a b : Nat) (v : Byte) :
    (m.write a v).read b = if b = a then v else m.read b := by
  split
  · next h => rw [h, Memory.read_write_same]
  · next h => exact Memory.read_write_other m v h

theorem Memory.mem_insertCell (m : Memory) (a : Nat) (v : Byte) (p : Host.Cell) :
    p ∈ m.insertCell a v ↔ p = (a, v) ∨ p ∈ m := by
  induction m with
  | nil => simp [Memory.insertCell]
  | cons q m ih =>
    obtain ⟨b, w⟩ := q
    unfold Memory.insertCell
    split
    · simp
    · simp only [List.mem_cons, ih]
      tauto

theorem Memory.mem_write {m : Memory} {a : Nat} {v : Byte} {p : Host.Cell} (h : p ∈ m.write a v) :
    p ∈ m ∨ (p = (a, v) ∧ v ≠ Memory.unlisted) := by
  unfold Memory.write at h
  split at h
  · exact .inl (List.mem_filter.1 h).1
  · next hv =>
    rcases (Memory.mem_insertCell _ _ _ _).1 h with rfl | h
    · exact .inr ⟨rfl, hv⟩
    · exact .inl (List.mem_filter.1 h).1

theorem Memory.sorted_insertCell (m : Memory) (a : Nat) (v : Byte) (h : m.Pairwise fun p q => p.1 < q.1)
    (ha : ∀ p ∈ m, p.1 ≠ a) : (m.insertCell a v).Pairwise fun p q => p.1 < q.1 := by
  induction m with
  | nil => simp [Memory.insertCell]
  | cons p m ih =>
    obtain ⟨b, w⟩ := p
    obtain ⟨hb, hm⟩ := List.pairwise_cons.1 h
    have hne : b ≠ a := ha (b, w) (by simp)
    unfold Memory.insertCell
    split
    · next hlt =>
      refine List.pairwise_cons.2 ⟨fun q hq => ?_, h⟩
      rcases List.mem_cons.1 hq with rfl | hq
      · exact hlt
      · exact hlt.trans (hb q hq)
    · next hge =>
      refine List.pairwise_cons.2 ⟨fun q hq => ?_, ih hm fun p hp => ha p (by simp [hp])⟩
      rcases (Memory.mem_insertCell _ _ _ _).1 hq with rfl | hq
      · show b < a
        omega
      · exact hb q hq

/-- A write keeps the canonical form. -/
theorem Memory.write_wf {m : Memory} (h : m.wf) (a : Nat) (v : Byte) : (m.write a v).wf := by
  refine ⟨?_, fun p hp => ?_⟩
  · unfold Memory.write
    split
    · exact h.1.filter _
    · exact Memory.sorted_insertCell _ _ _ (h.1.filter _) (Memory.erase_ne m a)
  · rcases Memory.mem_write hp with hp | ⟨rfl, hv⟩
    · exact h.2 p hp
    · exact hv

/-- A write below a bound keeps every listed address below it. -/
theorem Memory.write_within {m : Memory} {bound a : Nat} (h : m.within bound) (ha : a < bound) (v : Byte) :
    (m.write a v).within bound := by
  intro p hp
  rcases Memory.mem_write hp with hp | ⟨rfl, -⟩
  · exact h p hp
  · exact ha

end Sys2Proof.Machine
end

