-- ==== Sys2Proof/Laws/State.lean ====
section
/-! SUPPORT. One lemma per field per update of the state, true by `rfl`: no later proof unfolds a record update. -/

namespace Sys2Proof.Machine

@[simp] theorem State.setA_cfg (s : State) (v : Byte) : (s.setA v).cfg = s.cfg := rfl
@[simp] theorem State.setA_a (s : State) (v : Byte) : (s.setA v).a = v := rfl
@[simp] theorem State.setA_x (s : State) (v : Byte) : (s.setA v).x = s.x := rfl
@[simp] theorem State.setA_pc (s : State) (v : Byte) : (s.setA v).pc = s.pc := rfl
@[simp] theorem State.setA_sp (s : State) (v : Byte) : (s.setA v).sp = s.sp := rfl
@[simp] theorem State.setA_cc (s : State) (v : Byte) : (s.setA v).cc = s.cc := rfl
@[simp] theorem State.setA_pendExt (s : State) (v : Byte) : (s.setA v).pendExt = s.pendExt := rfl
@[simp] theorem State.setA_runState (s : State) (v : Byte) : (s.setA v).runState = s.runState := rfl
@[simp] theorem State.setA_intPin (s : State) (v : Byte) : (s.setA v).intPin = s.intPin := rfl
@[simp] theorem State.setA_timer (s : State) (v : Byte) : (s.setA v).timer = s.timer := rfl
@[simp] theorem State.setA_mem (s : State) (v : Byte) : (s.setA v).mem = s.mem := rfl
@[simp] theorem State.setA_inputs (s : State) (v : Byte) : (s.setA v).inputs = s.inputs := rfl
@[simp] theorem State.setA_draws (s : State) (v : Byte) : (s.setA v).draws = s.draws := rfl
@[simp] theorem State.setA_cycles (s : State) (v : Byte) : (s.setA v).cycles = s.cycles := rfl

@[simp] theorem State.setX_cfg (s : State) (v : Byte) : (s.setX v).cfg = s.cfg := rfl
@[simp] theorem State.setX_a (s : State) (v : Byte) : (s.setX v).a = s.a := rfl
@[simp] theorem State.setX_x (s : State) (v : Byte) : (s.setX v).x = v := rfl
@[simp] theorem State.setX_pc (s : State) (v : Byte) : (s.setX v).pc = s.pc := rfl
@[simp] theorem State.setX_sp (s : State) (v : Byte) : (s.setX v).sp = s.sp := rfl
@[simp] theorem State.setX_cc (s : State) (v : Byte) : (s.setX v).cc = s.cc := rfl
@[simp] theorem State.setX_pendExt (s : State) (v : Byte) : (s.setX v).pendExt = s.pendExt := rfl
@[simp] theorem State.setX_runState (s : State) (v : Byte) : (s.setX v).runState = s.runState := rfl
@[simp] theorem State.setX_intPin (s : State) (v : Byte) : (s.setX v).intPin = s.intPin := rfl
@[simp] theorem State.setX_timer (s : State) (v : Byte) : (s.setX v).timer = s.timer := rfl
@[simp] theorem State.setX_mem (s : State) (v : Byte) : (s.setX v).mem = s.mem := rfl
@[simp] theorem State.setX_inputs (s : State) (v : Byte) : (s.setX v).inputs = s.inputs := rfl
@[simp] theorem State.setX_draws (s : State) (v : Byte) : (s.setX v).draws = s.draws := rfl
@[simp] theorem State.setX_cycles (s : State) (v : Byte) : (s.setX v).cycles = s.cycles := rfl

@[simp] theorem State.setPc_cfg (s : State) (v : Addr) : (s.setPc v).cfg = s.cfg := rfl
@[simp] theorem State.setPc_a (s : State) (v : Addr) : (s.setPc v).a = s.a := rfl
@[simp] theorem State.setPc_x (s : State) (v : Addr) : (s.setPc v).x = s.x := rfl
@[simp] theorem State.setPc_pc (s : State) (v : Addr) : (s.setPc v).pc = v := rfl
@[simp] theorem State.setPc_sp (s : State) (v : Addr) : (s.setPc v).sp = s.sp := rfl
@[simp] theorem State.setPc_cc (s : State) (v : Addr) : (s.setPc v).cc = s.cc := rfl
@[simp] theorem State.setPc_pendExt (s : State) (v : Addr) : (s.setPc v).pendExt = s.pendExt := rfl
@[simp] theorem State.setPc_runState (s : State) (v : Addr) : (s.setPc v).runState = s.runState := rfl
@[simp] theorem State.setPc_intPin (s : State) (v : Addr) : (s.setPc v).intPin = s.intPin := rfl
@[simp] theorem State.setPc_timer (s : State) (v : Addr) : (s.setPc v).timer = s.timer := rfl
@[simp] theorem State.setPc_mem (s : State) (v : Addr) : (s.setPc v).mem = s.mem := rfl
@[simp] theorem State.setPc_inputs (s : State) (v : Addr) : (s.setPc v).inputs = s.inputs := rfl
@[simp] theorem State.setPc_draws (s : State) (v : Addr) : (s.setPc v).draws = s.draws := rfl
@[simp] theorem State.setPc_cycles (s : State) (v : Addr) : (s.setPc v).cycles = s.cycles := rfl

@[simp] theorem State.setSp_cfg (s : State) (v : Addr) : (s.setSp v).cfg = s.cfg := rfl
@[simp] theorem State.setSp_a (s : State) (v : Addr) : (s.setSp v).a = s.a := rfl
@[simp] theorem State.setSp_x (s : State) (v : Addr) : (s.setSp v).x = s.x := rfl
@[simp] theorem State.setSp_pc (s : State) (v : Addr) : (s.setSp v).pc = s.pc := rfl
@[simp] theorem State.setSp_sp (s : State) (v : Addr) : (s.setSp v).sp = v := rfl
@[simp] theorem State.setSp_cc (s : State) (v : Addr) : (s.setSp v).cc = s.cc := rfl
@[simp] theorem State.setSp_pendExt (s : State) (v : Addr) : (s.setSp v).pendExt = s.pendExt := rfl
@[simp] theorem State.setSp_runState (s : State) (v : Addr) : (s.setSp v).runState = s.runState := rfl
@[simp] theorem State.setSp_intPin (s : State) (v : Addr) : (s.setSp v).intPin = s.intPin := rfl
@[simp] theorem State.setSp_timer (s : State) (v : Addr) : (s.setSp v).timer = s.timer := rfl
@[simp] theorem State.setSp_mem (s : State) (v : Addr) : (s.setSp v).mem = s.mem := rfl
@[simp] theorem State.setSp_inputs (s : State) (v : Addr) : (s.setSp v).inputs = s.inputs := rfl
@[simp] theorem State.setSp_draws (s : State) (v : Addr) : (s.setSp v).draws = s.draws := rfl
@[simp] theorem State.setSp_cycles (s : State) (v : Addr) : (s.setSp v).cycles = s.cycles := rfl

@[simp] theorem State.setCc_cfg (s : State) (v : CC) : (s.setCc v).cfg = s.cfg := rfl
@[simp] theorem State.setCc_a (s : State) (v : CC) : (s.setCc v).a = s.a := rfl
@[simp] theorem State.setCc_x (s : State) (v : CC) : (s.setCc v).x = s.x := rfl
@[simp] theorem State.setCc_pc (s : State) (v : CC) : (s.setCc v).pc = s.pc := rfl
@[simp] theorem State.setCc_sp (s : State) (v : CC) : (s.setCc v).sp = s.sp := rfl
@[simp] theorem State.setCc_cc (s : State) (v : CC) : (s.setCc v).cc = v := rfl
@[simp] theorem State.setCc_pendExt (s : State) (v : CC) : (s.setCc v).pendExt = s.pendExt := rfl
@[simp] theorem State.setCc_runState (s : State) (v : CC) : (s.setCc v).runState = s.runState := rfl
@[simp] theorem State.setCc_intPin (s : State) (v : CC) : (s.setCc v).intPin = s.intPin := rfl
@[simp] theorem State.setCc_timer (s : State) (v : CC) : (s.setCc v).timer = s.timer := rfl
@[simp] theorem State.setCc_mem (s : State) (v : CC) : (s.setCc v).mem = s.mem := rfl
@[simp] theorem State.setCc_inputs (s : State) (v : CC) : (s.setCc v).inputs = s.inputs := rfl
@[simp] theorem State.setCc_draws (s : State) (v : CC) : (s.setCc v).draws = s.draws := rfl
@[simp] theorem State.setCc_cycles (s : State) (v : CC) : (s.setCc v).cycles = s.cycles := rfl

@[simp] theorem State.setPendExt_cfg (s : State) (v : Bool) : (s.setPendExt v).cfg = s.cfg := rfl
@[simp] theorem State.setPendExt_a (s : State) (v : Bool) : (s.setPendExt v).a = s.a := rfl
@[simp] theorem State.setPendExt_x (s : State) (v : Bool) : (s.setPendExt v).x = s.x := rfl
@[simp] theorem State.setPendExt_pc (s : State) (v : Bool) : (s.setPendExt v).pc = s.pc := rfl
@[simp] theorem State.setPendExt_sp (s : State) (v : Bool) : (s.setPendExt v).sp = s.sp := rfl
@[simp] theorem State.setPendExt_cc (s : State) (v : Bool) : (s.setPendExt v).cc = s.cc := rfl
@[simp] theorem State.setPendExt_pendExt (s : State) (v : Bool) : (s.setPendExt v).pendExt = v := rfl
@[simp] theorem State.setPendExt_runState (s : State) (v : Bool) : (s.setPendExt v).runState = s.runState := rfl
@[simp] theorem State.setPendExt_intPin (s : State) (v : Bool) : (s.setPendExt v).intPin = s.intPin := rfl
@[simp] theorem State.setPendExt_timer (s : State) (v : Bool) : (s.setPendExt v).timer = s.timer := rfl
@[simp] theorem State.setPendExt_mem (s : State) (v : Bool) : (s.setPendExt v).mem = s.mem := rfl
@[simp] theorem State.setPendExt_inputs (s : State) (v : Bool) : (s.setPendExt v).inputs = s.inputs := rfl
@[simp] theorem State.setPendExt_draws (s : State) (v : Bool) : (s.setPendExt v).draws = s.draws := rfl
@[simp] theorem State.setPendExt_cycles (s : State) (v : Bool) : (s.setPendExt v).cycles = s.cycles := rfl

@[simp] theorem State.setRunState_cfg (s : State) (v : RunState) : (s.setRunState v).cfg = s.cfg := rfl
@[simp] theorem State.setRunState_a (s : State) (v : RunState) : (s.setRunState v).a = s.a := rfl
@[simp] theorem State.setRunState_x (s : State) (v : RunState) : (s.setRunState v).x = s.x := rfl
@[simp] theorem State.setRunState_pc (s : State) (v : RunState) : (s.setRunState v).pc = s.pc := rfl
@[simp] theorem State.setRunState_sp (s : State) (v : RunState) : (s.setRunState v).sp = s.sp := rfl
@[simp] theorem State.setRunState_cc (s : State) (v : RunState) : (s.setRunState v).cc = s.cc := rfl
@[simp] theorem State.setRunState_pendExt (s : State) (v : RunState) : (s.setRunState v).pendExt = s.pendExt := rfl
@[simp] theorem State.setRunState_runState (s : State) (v : RunState) : (s.setRunState v).runState = v := rfl
@[simp] theorem State.setRunState_intPin (s : State) (v : RunState) : (s.setRunState v).intPin = s.intPin := rfl
@[simp] theorem State.setRunState_timer (s : State) (v : RunState) : (s.setRunState v).timer = s.timer := rfl
@[simp] theorem State.setRunState_mem (s : State) (v : RunState) : (s.setRunState v).mem = s.mem := rfl
@[simp] theorem State.setRunState_inputs (s : State) (v : RunState) : (s.setRunState v).inputs = s.inputs := rfl
@[simp] theorem State.setRunState_draws (s : State) (v : RunState) : (s.setRunState v).draws = s.draws := rfl
@[simp] theorem State.setRunState_cycles (s : State) (v : RunState) : (s.setRunState v).cycles = s.cycles := rfl

@[simp] theorem State.setIntPin_cfg (s : State) (v : Bool) : (s.setIntPin v).cfg = s.cfg := rfl
@[simp] theorem State.setIntPin_a (s : State) (v : Bool) : (s.setIntPin v).a = s.a := rfl
@[simp] theorem State.setIntPin_x (s : State) (v : Bool) : (s.setIntPin v).x = s.x := rfl
@[simp] theorem State.setIntPin_pc (s : State) (v : Bool) : (s.setIntPin v).pc = s.pc := rfl
@[simp] theorem State.setIntPin_sp (s : State) (v : Bool) : (s.setIntPin v).sp = s.sp := rfl
@[simp] theorem State.setIntPin_cc (s : State) (v : Bool) : (s.setIntPin v).cc = s.cc := rfl
@[simp] theorem State.setIntPin_pendExt (s : State) (v : Bool) : (s.setIntPin v).pendExt = s.pendExt := rfl
@[simp] theorem State.setIntPin_runState (s : State) (v : Bool) : (s.setIntPin v).runState = s.runState := rfl
@[simp] theorem State.setIntPin_intPin (s : State) (v : Bool) : (s.setIntPin v).intPin = v := rfl
@[simp] theorem State.setIntPin_timer (s : State) (v : Bool) : (s.setIntPin v).timer = s.timer := rfl
@[simp] theorem State.setIntPin_mem (s : State) (v : Bool) : (s.setIntPin v).mem = s.mem := rfl
@[simp] theorem State.setIntPin_inputs (s : State) (v : Bool) : (s.setIntPin v).inputs = s.inputs := rfl
@[simp] theorem State.setIntPin_draws (s : State) (v : Bool) : (s.setIntPin v).draws = s.draws := rfl
@[simp] theorem State.setIntPin_cycles (s : State) (v : Bool) : (s.setIntPin v).cycles = s.cycles := rfl

@[simp] theorem State.setTimer_cfg (s : State) (v : Timer) : (s.setTimer v).cfg = s.cfg := rfl
@[simp] theorem State.setTimer_a (s : State) (v : Timer) : (s.setTimer v).a = s.a := rfl
@[simp] theorem State.setTimer_x (s : State) (v : Timer) : (s.setTimer v).x = s.x := rfl
@[simp] theorem State.setTimer_pc (s : State) (v : Timer) : (s.setTimer v).pc = s.pc := rfl
@[simp] theorem State.setTimer_sp (s : State) (v : Timer) : (s.setTimer v).sp = s.sp := rfl
@[simp] theorem State.setTimer_cc (s : State) (v : Timer) : (s.setTimer v).cc = s.cc := rfl
@[simp] theorem State.setTimer_pendExt (s : State) (v : Timer) : (s.setTimer v).pendExt = s.pendExt := rfl
@[simp] theorem State.setTimer_runState (s : State) (v : Timer) : (s.setTimer v).runState = s.runState := rfl
@[simp] theorem State.setTimer_intPin (s : State) (v : Timer) : (s.setTimer v).intPin = s.intPin := rfl
@[simp] theorem State.setTimer_timer (s : State) (v : Timer) : (s.setTimer v).timer = v := rfl
@[simp] theorem State.setTimer_mem (s : State) (v : Timer) : (s.setTimer v).mem = s.mem := rfl
@[simp] theorem State.setTimer_inputs (s : State) (v : Timer) : (s.setTimer v).inputs = s.inputs := rfl
@[simp] theorem State.setTimer_draws (s : State) (v : Timer) : (s.setTimer v).draws = s.draws := rfl
@[simp] theorem State.setTimer_cycles (s : State) (v : Timer) : (s.setTimer v).cycles = s.cycles := rfl

@[simp] theorem State.setMem_cfg (s : State) (v : Memory) : (s.setMem v).cfg = s.cfg := rfl
@[simp] theorem State.setMem_a (s : State) (v : Memory) : (s.setMem v).a = s.a := rfl
@[simp] theorem State.setMem_x (s : State) (v : Memory) : (s.setMem v).x = s.x := rfl
@[simp] theorem State.setMem_pc (s : State) (v : Memory) : (s.setMem v).pc = s.pc := rfl
@[simp] theorem State.setMem_sp (s : State) (v : Memory) : (s.setMem v).sp = s.sp := rfl
@[simp] theorem State.setMem_cc (s : State) (v : Memory) : (s.setMem v).cc = s.cc := rfl
@[simp] theorem State.setMem_pendExt (s : State) (v : Memory) : (s.setMem v).pendExt = s.pendExt := rfl
@[simp] theorem State.setMem_runState (s : State) (v : Memory) : (s.setMem v).runState = s.runState := rfl
@[simp] theorem State.setMem_intPin (s : State) (v : Memory) : (s.setMem v).intPin = s.intPin := rfl
@[simp] theorem State.setMem_timer (s : State) (v : Memory) : (s.setMem v).timer = s.timer := rfl
@[simp] theorem State.setMem_mem (s : State) (v : Memory) : (s.setMem v).mem = v := rfl
@[simp] theorem State.setMem_inputs (s : State) (v : Memory) : (s.setMem v).inputs = s.inputs := rfl
@[simp] theorem State.setMem_draws (s : State) (v : Memory) : (s.setMem v).draws = s.draws := rfl
@[simp] theorem State.setMem_cycles (s : State) (v : Memory) : (s.setMem v).cycles = s.cycles := rfl

@[simp] theorem State.setInputs_cfg (s : State) (v : List Input) : (s.setInputs v).cfg = s.cfg := rfl
@[simp] theorem State.setInputs_a (s : State) (v : List Input) : (s.setInputs v).a = s.a := rfl
@[simp] theorem State.setInputs_x (s : State) (v : List Input) : (s.setInputs v).x = s.x := rfl
@[simp] theorem State.setInputs_pc (s : State) (v : List Input) : (s.setInputs v).pc = s.pc := rfl
@[simp] theorem State.setInputs_sp (s : State) (v : List Input) : (s.setInputs v).sp = s.sp := rfl
@[simp] theorem State.setInputs_cc (s : State) (v : List Input) : (s.setInputs v).cc = s.cc := rfl
@[simp] theorem State.setInputs_pendExt (s : State) (v : List Input) : (s.setInputs v).pendExt = s.pendExt := rfl
@[simp] theorem State.setInputs_runState (s : State) (v : List Input) : (s.setInputs v).runState = s.runState := rfl
@[simp] theorem State.setInputs_intPin (s : State) (v : List Input) : (s.setInputs v).intPin = s.intPin := rfl
@[simp] theorem State.setInputs_timer (s : State) (v : List Input) : (s.setInputs v).timer = s.timer := rfl
@[simp] theorem State.setInputs_mem (s : State) (v : List Input) : (s.setInputs v).mem = s.mem := rfl
@[simp] theorem State.setInputs_inputs (s : State) (v : List Input) : (s.setInputs v).inputs = v := rfl
@[simp] theorem State.setInputs_draws (s : State) (v : List Input) : (s.setInputs v).draws = s.draws := rfl
@[simp] theorem State.setInputs_cycles (s : State) (v : List Input) : (s.setInputs v).cycles = s.cycles := rfl

@[simp] theorem State.setDraws_cfg (s : State) (v : Nat) : (s.setDraws v).cfg = s.cfg := rfl
@[simp] theorem State.setDraws_a (s : State) (v : Nat) : (s.setDraws v).a = s.a := rfl
@[simp] theorem State.setDraws_x (s : State) (v : Nat) : (s.setDraws v).x = s.x := rfl
@[simp] theorem State.setDraws_pc (s : State) (v : Nat) : (s.setDraws v).pc = s.pc := rfl
@[simp] theorem State.setDraws_sp (s : State) (v : Nat) : (s.setDraws v).sp = s.sp := rfl
@[simp] theorem State.setDraws_cc (s : State) (v : Nat) : (s.setDraws v).cc = s.cc := rfl
@[simp] theorem State.setDraws_pendExt (s : State) (v : Nat) : (s.setDraws v).pendExt = s.pendExt := rfl
@[simp] theorem State.setDraws_runState (s : State) (v : Nat) : (s.setDraws v).runState = s.runState := rfl
@[simp] theorem State.setDraws_intPin (s : State) (v : Nat) : (s.setDraws v).intPin = s.intPin := rfl
@[simp] theorem State.setDraws_timer (s : State) (v : Nat) : (s.setDraws v).timer = s.timer := rfl
@[simp] theorem State.setDraws_mem (s : State) (v : Nat) : (s.setDraws v).mem = s.mem := rfl
@[simp] theorem State.setDraws_inputs (s : State) (v : Nat) : (s.setDraws v).inputs = s.inputs := rfl
@[simp] theorem State.setDraws_draws (s : State) (v : Nat) : (s.setDraws v).draws = v := rfl
@[simp] theorem State.setDraws_cycles (s : State) (v : Nat) : (s.setDraws v).cycles = s.cycles := rfl

@[simp] theorem State.setCycles_cfg (s : State) (v : Nat) : (s.setCycles v).cfg = s.cfg := rfl
@[simp] theorem State.setCycles_a (s : State) (v : Nat) : (s.setCycles v).a = s.a := rfl
@[simp] theorem State.setCycles_x (s : State) (v : Nat) : (s.setCycles v).x = s.x := rfl
@[simp] theorem State.setCycles_pc (s : State) (v : Nat) : (s.setCycles v).pc = s.pc := rfl
@[simp] theorem State.setCycles_sp (s : State) (v : Nat) : (s.setCycles v).sp = s.sp := rfl
@[simp] theorem State.setCycles_cc (s : State) (v : Nat) : (s.setCycles v).cc = s.cc := rfl
@[simp] theorem State.setCycles_pendExt (s : State) (v : Nat) : (s.setCycles v).pendExt = s.pendExt := rfl
@[simp] theorem State.setCycles_runState (s : State) (v : Nat) : (s.setCycles v).runState = s.runState := rfl
@[simp] theorem State.setCycles_intPin (s : State) (v : Nat) : (s.setCycles v).intPin = s.intPin := rfl
@[simp] theorem State.setCycles_timer (s : State) (v : Nat) : (s.setCycles v).timer = s.timer := rfl
@[simp] theorem State.setCycles_mem (s : State) (v : Nat) : (s.setCycles v).mem = s.mem := rfl
@[simp] theorem State.setCycles_inputs (s : State) (v : Nat) : (s.setCycles v).inputs = s.inputs := rfl
@[simp] theorem State.setCycles_draws (s : State) (v : Nat) : (s.setCycles v).draws = s.draws := rfl
@[simp] theorem State.setCycles_cycles (s : State) (v : Nat) : (s.setCycles v).cycles = v := rfl

end Sys2Proof.Machine
end

