-- ==== Sys2Proof/Laws/Ops.lean ====
section
/-! SUPPORT. What each shared operation can do: the fields it leaves alone, and its effect on the fields it changes. -/

namespace Sys2Proof.Machine

/-! ### Addresses -/

theorem trunc_toNat {c : Config} (h : c.addrBits ≤ 16) (v : Addr) :
    (trunc c v).toNat = v.toNat % 2 ^ c.addrBits := by
  have h2 : 2 ^ c.addrBits ≤ 2 ^ 16 := Nat.pow_le_pow_right (by decide) h
  have h1 : 1 ≤ 2 ^ c.addrBits := Nat.one_le_two_pow
  have h3 : (2 ^ c.addrBits - 1) % 2 ^ 16 = 2 ^ c.addrBits - 1 := Nat.mod_eq_of_lt (by omega)
  simp only [trunc, addrMask, BitVec.toNat_and, BitVec.toNat_ofNat, h3]
  exact Nat.and_two_pow_sub_one_eq_mod _ _

@[simp] theorem trunc_trunc (c : Config) (v : Addr) : trunc c (trunc c v) = trunc c v := by
  simp only [trunc, BitVec.and_assoc, BitVec.and_self]

theorem trunc_lt {c : Config} (h : c.addrBits ≤ 16) (v : Addr) : (trunc c v).toNat < 2 ^ c.addrBits := by
  rw [trunc_toNat h]
  exact Nat.mod_lt _ (Nat.two_pow_pos _)

theorem trunc_of_lt {c : Config} (h : c.addrBits ≤ 16) {v : Addr} (hv : v.toNat < 2 ^ c.addrBits) :
    trunc c v = v := by
  apply BitVec.eq_of_toNat_eq
  rw [trunc_toNat h, Nat.mod_eq_of_lt hv]

/-- Truncating twice along a sum is truncating once. -/
theorem trunc_add_trunc {c : Config} (h : c.addrBits ≤ 16) (v w : Addr) :
    trunc c (trunc c v + w) = trunc c (v + w) := by
  apply BitVec.eq_of_toNat_eq
  have hd : (2 ^ c.addrBits) ∣ 2 ^ 16 := pow_dvd_pow 2 h
  simp only [trunc_toNat h, BitVec.toNat_add, Nat.mod_mod_of_dvd _ hd]
  rw [Nat.add_mod, Nat.mod_mod, ← Nat.add_mod]

/-! ### Reads -/

@[simp] theorem afterRead_cfg (s : State) (addr : Addr) : (afterRead s addr).cfg = s.cfg := by unfold afterRead; split <;> rfl
@[simp] theorem afterRead_a (s : State) (addr : Addr) : (afterRead s addr).a = s.a := by unfold afterRead; split <;> rfl
@[simp] theorem afterRead_x (s : State) (addr : Addr) : (afterRead s addr).x = s.x := by unfold afterRead; split <;> rfl
@[simp] theorem afterRead_pc (s : State) (addr : Addr) : (afterRead s addr).pc = s.pc := by unfold afterRead; split <;> rfl
@[simp] theorem afterRead_sp (s : State) (addr : Addr) : (afterRead s addr).sp = s.sp := by unfold afterRead; split <;> rfl
@[simp] theorem afterRead_cc (s : State) (addr : Addr) : (afterRead s addr).cc = s.cc := by unfold afterRead; split <;> rfl
@[simp] theorem afterRead_pendExt (s : State) (addr : Addr) : (afterRead s addr).pendExt = s.pendExt := by unfold afterRead; split <;> rfl
@[simp] theorem afterRead_runState (s : State) (addr : Addr) : (afterRead s addr).runState = s.runState := by unfold afterRead; split <;> rfl
@[simp] theorem afterRead_intPin (s : State) (addr : Addr) : (afterRead s addr).intPin = s.intPin := by unfold afterRead; split <;> rfl
@[simp] theorem afterRead_timer (s : State) (addr : Addr) : (afterRead s addr).timer = s.timer := by unfold afterRead; split <;> rfl
@[simp] theorem afterRead_mem (s : State) (addr : Addr) : (afterRead s addr).mem = s.mem := by unfold afterRead; split <;> rfl
@[simp] theorem afterRead_inputs (s : State) (addr : Addr) : (afterRead s addr).inputs = s.inputs := by unfold afterRead; split <;> rfl
@[simp] theorem afterRead_cycles (s : State) (addr : Addr) : (afterRead s addr).cycles = s.cycles := by unfold afterRead; split <;> rfl

@[simp] theorem memRead_fst (s : State) (addr : Addr) : (memRead s addr).1 = readByte s addr := rfl
@[simp] theorem memRead_snd (s : State) (addr : Addr) : (memRead s addr).2 = afterRead s addr := rfl

/-- A read of RAM or ROM changes nothing. -/
theorem afterRead_memory {s : State} {addr : Addr} (h : kindAt s addr = .ram ∨ kindAt s addr = .rom) :
    afterRead s addr = s := by
  rcases h with h | h <;> simp [afterRead, h]

/-- A read of RAM or ROM gives the content. -/
theorem readByte_memory {s : State} {addr : Addr} (h : kindAt s addr = .ram ∨ kindAt s addr = .rom) :
    readByte s addr = content s addr := by
  rcases h with h | h <;> simp [readByte, h]

/-- Everything a read can do to the state. -/
theorem afterRead_cases (s : State) (addr : Addr) :
    afterRead s addr = s ∨ afterRead s addr = s.setDraws (s.draws + 1) := by
  unfold afterRead
  split <;> simp

/-! ### Writes -/

@[simp] theorem memWrite_cfg (s : State) (addr : Addr) (v : Byte) : (memWrite s addr v).cfg = s.cfg := by unfold memWrite; split <;> rfl
@[simp] theorem memWrite_a (s : State) (addr : Addr) (v : Byte) : (memWrite s addr v).a = s.a := by unfold memWrite; split <;> rfl
@[simp] theorem memWrite_x (s : State) (addr : Addr) (v : Byte) : (memWrite s addr v).x = s.x := by unfold memWrite; split <;> rfl
@[simp] theorem memWrite_pc (s : State) (addr : Addr) (v : Byte) : (memWrite s addr v).pc = s.pc := by unfold memWrite; split <;> rfl
@[simp] theorem memWrite_sp (s : State) (addr : Addr) (v : Byte) : (memWrite s addr v).sp = s.sp := by unfold memWrite; split <;> rfl
@[simp] theorem memWrite_cc (s : State) (addr : Addr) (v : Byte) : (memWrite s addr v).cc = s.cc := by unfold memWrite; split <;> rfl
@[simp] theorem memWrite_pendExt (s : State) (addr : Addr) (v : Byte) : (memWrite s addr v).pendExt = s.pendExt := by unfold memWrite; split <;> rfl
@[simp] theorem memWrite_runState (s : State) (addr : Addr) (v : Byte) : (memWrite s addr v).runState = s.runState := by unfold memWrite; split <;> rfl
@[simp] theorem memWrite_intPin (s : State) (addr : Addr) (v : Byte) : (memWrite s addr v).intPin = s.intPin := by unfold memWrite; split <;> rfl
@[simp] theorem memWrite_timer (s : State) (addr : Addr) (v : Byte) : (memWrite s addr v).timer = s.timer := by unfold memWrite; split <;> rfl
@[simp] theorem memWrite_inputs (s : State) (addr : Addr) (v : Byte) : (memWrite s addr v).inputs = s.inputs := by unfold memWrite; split <;> rfl
@[simp] theorem memWrite_draws (s : State) (addr : Addr) (v : Byte) : (memWrite s addr v).draws = s.draws := by unfold memWrite; split <;> rfl
@[simp] theorem memWrite_cycles (s : State) (addr : Addr) (v : Byte) : (memWrite s addr v).cycles = s.cycles := by unfold memWrite; split <;> rfl

/-- Everything a write can do to the state. -/
theorem memWrite_cases (s : State) (addr : Addr) (v : Byte) :
    memWrite s addr v = s ∨ memWrite s addr v = s.setMem (s.mem.write (trunc s.cfg addr).toNat v) := by
  unfold memWrite
  split <;> simp

/-- A write to RAM stores the byte. -/
theorem memWrite_ram {s : State} {addr : Addr} (h : kindAt s addr = .ram) (v : Byte) :
    memWrite s addr v = s.setMem (s.mem.write (trunc s.cfg addr).toNat v) := by
  simp [memWrite, h]

/-- The location written holds the byte; every other keeps its own. -/
theorem content_memWrite_ram {s : State} {addr : Addr} (h : kindAt s addr = .ram) (v : Byte) (b : Addr) :
    content (memWrite s addr v) b = if trunc s.cfg b = trunc s.cfg addr then v else content s b := by
  simp only [memWrite_ram h, content, State.setMem_mem, State.setMem_cfg, Memory.read_write, BitVec.toNat_inj]

/-- Whatever the location is, a write changes no other one. -/
theorem content_memWrite_other (s : State) {addr b : Addr} (v : Byte) (h : trunc s.cfg b ≠ trunc s.cfg addr) :
    content (memWrite s addr v) b = content s b := by
  rcases memWrite_cases s addr v with e | e
  · rw [e]
  · rw [e]
    simp only [content, State.setMem_mem, State.setMem_cfg]
    exact Memory.read_write_other _ _ fun hb => h (BitVec.toNat_inj.1 hb)

/-- A write keeps the canonical form. -/
theorem memWrite_wf {s : State} (h : s.mem.wf) (addr : Addr) (v : Byte) : (memWrite s addr v).mem.wf := by
  rcases memWrite_cases s addr v with e | e <;> rw [e]
  · exact h
  · exact Memory.write_wf h _ _

/-- A write holds no byte outside the address space. -/
theorem memWrite_within {s : State} (hc : s.cfg.addrBits ≤ 16) (h : s.mem.within (2 ^ s.cfg.addrBits)) (addr : Addr)
    (v : Byte) : (memWrite s addr v).mem.within (2 ^ s.cfg.addrBits) := by
  rcases memWrite_cases s addr v with e | e <;> rw [e]
  · exact h
  · exact Memory.write_within h (trunc_lt hc _) _

/-- What the address map has somewhere depends on the member alone. -/
theorem kindAt_congr {s t : State} (h : t.cfg = s.cfg) (addr : Addr) : kindAt t addr = kindAt s addr := by
  simp only [kindAt, h]

/-! ### Fetch -/

@[simp] theorem fetch8_cfg (s : State) : ((fetch8 s).2).cfg = s.cfg := by simp [fetch8]
@[simp] theorem fetch8_a (s : State) : ((fetch8 s).2).a = s.a := by simp [fetch8]
@[simp] theorem fetch8_x (s : State) : ((fetch8 s).2).x = s.x := by simp [fetch8]
@[simp] theorem fetch8_sp (s : State) : ((fetch8 s).2).sp = s.sp := by simp [fetch8]
@[simp] theorem fetch8_cc (s : State) : ((fetch8 s).2).cc = s.cc := by simp [fetch8]
@[simp] theorem fetch8_pendExt (s : State) : ((fetch8 s).2).pendExt = s.pendExt := by simp [fetch8]
@[simp] theorem fetch8_runState (s : State) : ((fetch8 s).2).runState = s.runState := by simp [fetch8]
@[simp] theorem fetch8_intPin (s : State) : ((fetch8 s).2).intPin = s.intPin := by simp [fetch8]
@[simp] theorem fetch8_timer (s : State) : ((fetch8 s).2).timer = s.timer := by simp [fetch8]
@[simp] theorem fetch8_mem (s : State) : ((fetch8 s).2).mem = s.mem := by simp [fetch8]
@[simp] theorem fetch8_inputs (s : State) : ((fetch8 s).2).inputs = s.inputs := by simp [fetch8]
@[simp] theorem fetch8_cycles (s : State) : ((fetch8 s).2).cycles = s.cycles := by simp [fetch8]

@[simp] theorem fetch8_fst (s : State) : (fetch8 s).1 = readByte s s.pc := rfl
@[simp] theorem fetch8_pc (s : State) : (fetch8 s).2.pc = trunc s.cfg (s.pc + 1) := rfl

@[simp] theorem fetchBytes_cfg (k : Nat) (s : State) : (fetchBytes k s).2.cfg = s.cfg := by
  induction k generalizing s with
  | zero => rfl
  | succ k ih => simp [fetchBytes, ih]
@[simp] theorem fetchBytes_a (k : Nat) (s : State) : (fetchBytes k s).2.a = s.a := by
  induction k generalizing s with
  | zero => rfl
  | succ k ih => simp [fetchBytes, ih]
@[simp] theorem fetchBytes_x (k : Nat) (s : State) : (fetchBytes k s).2.x = s.x := by
  induction k generalizing s with
  | zero => rfl
  | succ k ih => simp [fetchBytes, ih]
@[simp] theorem fetchBytes_sp (k : Nat) (s : State) : (fetchBytes k s).2.sp = s.sp := by
  induction k generalizing s with
  | zero => rfl
  | succ k ih => simp [fetchBytes, ih]
@[simp] theorem fetchBytes_cc (k : Nat) (s : State) : (fetchBytes k s).2.cc = s.cc := by
  induction k generalizing s with
  | zero => rfl
  | succ k ih => simp [fetchBytes, ih]
@[simp] theorem fetchBytes_pendExt (k : Nat) (s : State) : (fetchBytes k s).2.pendExt = s.pendExt := by
  induction k generalizing s with
  | zero => rfl
  | succ k ih => simp [fetchBytes, ih]
@[simp] theorem fetchBytes_runState (k : Nat) (s : State) : (fetchBytes k s).2.runState = s.runState := by
  induction k generalizing s with
  | zero => rfl
  | succ k ih => simp [fetchBytes, ih]
@[simp] theorem fetchBytes_intPin (k : Nat) (s : State) : (fetchBytes k s).2.intPin = s.intPin := by
  induction k generalizing s with
  | zero => rfl
  | succ k ih => simp [fetchBytes, ih]
@[simp] theorem fetchBytes_timer (k : Nat) (s : State) : (fetchBytes k s).2.timer = s.timer := by
  induction k generalizing s with
  | zero => rfl
  | succ k ih => simp [fetchBytes, ih]
@[simp] theorem fetchBytes_mem (k : Nat) (s : State) : (fetchBytes k s).2.mem = s.mem := by
  induction k generalizing s with
  | zero => rfl
  | succ k ih => simp [fetchBytes, ih]
@[simp] theorem fetchBytes_inputs (k : Nat) (s : State) : (fetchBytes k s).2.inputs = s.inputs := by
  induction k generalizing s with
  | zero => rfl
  | succ k ih => simp [fetchBytes, ih]
@[simp] theorem fetchBytes_cycles (k : Nat) (s : State) : (fetchBytes k s).2.cycles = s.cycles := by
  induction k generalizing s with
  | zero => rfl
  | succ k ih => simp [fetchBytes, ih]

@[simp] theorem fetchInstr_cfg (s : State) : ((fetchInstr s).2).cfg = s.cfg := by simp [fetchInstr]
@[simp] theorem fetchInstr_a (s : State) : ((fetchInstr s).2).a = s.a := by simp [fetchInstr]
@[simp] theorem fetchInstr_x (s : State) : ((fetchInstr s).2).x = s.x := by simp [fetchInstr]
@[simp] theorem fetchInstr_sp (s : State) : ((fetchInstr s).2).sp = s.sp := by simp [fetchInstr]
@[simp] theorem fetchInstr_cc (s : State) : ((fetchInstr s).2).cc = s.cc := by simp [fetchInstr]
@[simp] theorem fetchInstr_pendExt (s : State) : ((fetchInstr s).2).pendExt = s.pendExt := by simp [fetchInstr]
@[simp] theorem fetchInstr_runState (s : State) : ((fetchInstr s).2).runState = s.runState := by simp [fetchInstr]
@[simp] theorem fetchInstr_intPin (s : State) : ((fetchInstr s).2).intPin = s.intPin := by simp [fetchInstr]
@[simp] theorem fetchInstr_timer (s : State) : ((fetchInstr s).2).timer = s.timer := by simp [fetchInstr]
@[simp] theorem fetchInstr_mem (s : State) : ((fetchInstr s).2).mem = s.mem := by simp [fetchInstr]
@[simp] theorem fetchInstr_inputs (s : State) : ((fetchInstr s).2).inputs = s.inputs := by simp [fetchInstr]
@[simp] theorem fetchInstr_cycles (s : State) : ((fetchInstr s).2).cycles = s.cycles := by simp [fetchInstr]

/-! ### The stack -/

@[simp] theorem push_cfg (v : Byte) (s : State) : (push v s).cfg = s.cfg := by simp [push]
@[simp] theorem push_a (v : Byte) (s : State) : (push v s).a = s.a := by simp [push]
@[simp] theorem push_x (v : Byte) (s : State) : (push v s).x = s.x := by simp [push]
@[simp] theorem push_pc (v : Byte) (s : State) : (push v s).pc = s.pc := by simp [push]
@[simp] theorem push_cc (v : Byte) (s : State) : (push v s).cc = s.cc := by simp [push]
@[simp] theorem push_pendExt (v : Byte) (s : State) : (push v s).pendExt = s.pendExt := by simp [push]
@[simp] theorem push_runState (v : Byte) (s : State) : (push v s).runState = s.runState := by simp [push]
@[simp] theorem push_intPin (v : Byte) (s : State) : (push v s).intPin = s.intPin := by simp [push]
@[simp] theorem push_timer (v : Byte) (s : State) : (push v s).timer = s.timer := by simp [push]
@[simp] theorem push_inputs (v : Byte) (s : State) : (push v s).inputs = s.inputs := by simp [push]
@[simp] theorem push_draws (v : Byte) (s : State) : (push v s).draws = s.draws := by simp [push]
@[simp] theorem push_cycles (v : Byte) (s : State) : (push v s).cycles = s.cycles := by simp [push]

@[simp] theorem push_sp (v : Byte) (s : State) : (push v s).sp = spDown s.cfg s.sp := rfl
@[simp] theorem push_mem (v : Byte) (s : State) : (push v s).mem = (memWrite s s.sp v).mem := rfl

/-- A push stores at the old stack pointer. -/
theorem content_push {s : State} (h : kindAt s s.sp = .ram) (v : Byte) (b : Addr) :
    content (push v s) b = if trunc s.cfg b = trunc s.cfg s.sp then v else content s b := by
  have e : content (push v s) b = content (memWrite s s.sp v) b := by simp [content, push]
  rw [e, content_memWrite_ram h]

@[simp] theorem pull_cfg (s : State) : ((pull s).2).cfg = s.cfg := by simp [pull]
@[simp] theorem pull_a (s : State) : ((pull s).2).a = s.a := by simp [pull]
@[simp] theorem pull_x (s : State) : ((pull s).2).x = s.x := by simp [pull]
@[simp] theorem pull_pc (s : State) : ((pull s).2).pc = s.pc := by simp [pull]
@[simp] theorem pull_cc (s : State) : ((pull s).2).cc = s.cc := by simp [pull]
@[simp] theorem pull_pendExt (s : State) : ((pull s).2).pendExt = s.pendExt := by simp [pull]
@[simp] theorem pull_runState (s : State) : ((pull s).2).runState = s.runState := by simp [pull]
@[simp] theorem pull_intPin (s : State) : ((pull s).2).intPin = s.intPin := by simp [pull]
@[simp] theorem pull_timer (s : State) : ((pull s).2).timer = s.timer := by simp [pull]
@[simp] theorem pull_mem (s : State) : ((pull s).2).mem = s.mem := by simp [pull]
@[simp] theorem pull_inputs (s : State) : ((pull s).2).inputs = s.inputs := by simp [pull]
@[simp] theorem pull_cycles (s : State) : ((pull s).2).cycles = s.cycles := by simp [pull]

@[simp] theorem pull_sp (s : State) : (pull s).2.sp = spUp s.cfg s.sp := by simp [pull]

/-- A pull from RAM gives the content of the location above. -/
theorem pull_memory {s : State} (h : kindAt s (spUp s.cfg s.sp) = .ram) :
    pull s = (content s (spUp s.cfg s.sp), s.setSp (spUp s.cfg s.sp)) := by
  have h' : kindAt (s.setSp (spUp s.cfg s.sp)) (spUp s.cfg s.sp) = .ram := h
  simp only [pull, memRead, readByte_memory (.inl h'), afterRead_memory (.inl h')]
  rfl

@[simp] theorem pushPc_cfg (s : State) : (pushPc s).cfg = s.cfg := by simp [pushPc]
@[simp] theorem pushPc_a (s : State) : (pushPc s).a = s.a := by simp [pushPc]
@[simp] theorem pushPc_x (s : State) : (pushPc s).x = s.x := by simp [pushPc]
@[simp] theorem pushPc_pc (s : State) : (pushPc s).pc = s.pc := by simp [pushPc]
@[simp] theorem pushPc_cc (s : State) : (pushPc s).cc = s.cc := by simp [pushPc]
@[simp] theorem pushPc_pendExt (s : State) : (pushPc s).pendExt = s.pendExt := by simp [pushPc]
@[simp] theorem pushPc_runState (s : State) : (pushPc s).runState = s.runState := by simp [pushPc]
@[simp] theorem pushPc_intPin (s : State) : (pushPc s).intPin = s.intPin := by simp [pushPc]
@[simp] theorem pushPc_timer (s : State) : (pushPc s).timer = s.timer := by simp [pushPc]
@[simp] theorem pushPc_inputs (s : State) : (pushPc s).inputs = s.inputs := by simp [pushPc]
@[simp] theorem pushPc_draws (s : State) : (pushPc s).draws = s.draws := by simp [pushPc]
@[simp] theorem pushPc_cycles (s : State) : (pushPc s).cycles = s.cycles := by simp [pushPc]

@[simp] theorem pushPc_sp (s : State) : (pushPc s).sp = spDown s.cfg (spDown s.cfg s.sp) := by simp [pushPc]

@[simp] theorem pullPc_cfg (s : State) : (pullPc s).cfg = s.cfg := by simp [pullPc]
@[simp] theorem pullPc_a (s : State) : (pullPc s).a = s.a := by simp [pullPc]
@[simp] theorem pullPc_x (s : State) : (pullPc s).x = s.x := by simp [pullPc]
@[simp] theorem pullPc_cc (s : State) : (pullPc s).cc = s.cc := by simp [pullPc]
@[simp] theorem pullPc_pendExt (s : State) : (pullPc s).pendExt = s.pendExt := by simp [pullPc]
@[simp] theorem pullPc_runState (s : State) : (pullPc s).runState = s.runState := by simp [pullPc]
@[simp] theorem pullPc_intPin (s : State) : (pullPc s).intPin = s.intPin := by simp [pullPc]
@[simp] theorem pullPc_timer (s : State) : (pullPc s).timer = s.timer := by simp [pullPc]
@[simp] theorem pullPc_mem (s : State) : (pullPc s).mem = s.mem := by simp [pullPc]
@[simp] theorem pullPc_inputs (s : State) : (pullPc s).inputs = s.inputs := by simp [pullPc]
@[simp] theorem pullPc_cycles (s : State) : (pullPc s).cycles = s.cycles := by simp [pullPc]

@[simp] theorem pullPc_sp (s : State) : (pullPc s).sp = spUp s.cfg (spUp s.cfg s.sp) := by simp [pullPc]

@[simp] theorem callTo_cfg (target : Addr) (s : State) : (callTo target s).cfg = s.cfg := by simp [callTo]
@[simp] theorem callTo_a (target : Addr) (s : State) : (callTo target s).a = s.a := by simp [callTo]
@[simp] theorem callTo_x (target : Addr) (s : State) : (callTo target s).x = s.x := by simp [callTo]
@[simp] theorem callTo_cc (target : Addr) (s : State) : (callTo target s).cc = s.cc := by simp [callTo]
@[simp] theorem callTo_pendExt (target : Addr) (s : State) : (callTo target s).pendExt = s.pendExt := by simp [callTo]
@[simp] theorem callTo_runState (target : Addr) (s : State) : (callTo target s).runState = s.runState := by simp [callTo]
@[simp] theorem callTo_intPin (target : Addr) (s : State) : (callTo target s).intPin = s.intPin := by simp [callTo]
@[simp] theorem callTo_timer (target : Addr) (s : State) : (callTo target s).timer = s.timer := by simp [callTo]
@[simp] theorem callTo_inputs (target : Addr) (s : State) : (callTo target s).inputs = s.inputs := by simp [callTo]
@[simp] theorem callTo_draws (target : Addr) (s : State) : (callTo target s).draws = s.draws := by simp [callTo]
@[simp] theorem callTo_cycles (target : Addr) (s : State) : (callTo target s).cycles = s.cycles := by simp [callTo]

@[simp] theorem callTo_pc (target : Addr) (s : State) : (callTo target s).pc = target := rfl
@[simp] theorem callTo_sp (target : Addr) (s : State) : (callTo target s).sp = spDown s.cfg (spDown s.cfg s.sp) := by simp [callTo]

/-! ### Exceptions and reset -/

@[simp] theorem loadVector_cfg (vec : Addr) (s : State) : (loadVector vec s).cfg = s.cfg := by simp [loadVector]
@[simp] theorem loadVector_a (vec : Addr) (s : State) : (loadVector vec s).a = s.a := by simp [loadVector]
@[simp] theorem loadVector_x (vec : Addr) (s : State) : (loadVector vec s).x = s.x := by simp [loadVector]
@[simp] theorem loadVector_sp (vec : Addr) (s : State) : (loadVector vec s).sp = s.sp := by simp [loadVector]
@[simp] theorem loadVector_cc (vec : Addr) (s : State) : (loadVector vec s).cc = s.cc := by simp [loadVector]
@[simp] theorem loadVector_pendExt (vec : Addr) (s : State) : (loadVector vec s).pendExt = s.pendExt := by simp [loadVector]
@[simp] theorem loadVector_runState (vec : Addr) (s : State) : (loadVector vec s).runState = s.runState := by simp [loadVector]
@[simp] theorem loadVector_intPin (vec : Addr) (s : State) : (loadVector vec s).intPin = s.intPin := by simp [loadVector]
@[simp] theorem loadVector_timer (vec : Addr) (s : State) : (loadVector vec s).timer = s.timer := by simp [loadVector]
@[simp] theorem loadVector_mem (vec : Addr) (s : State) : (loadVector vec s).mem = s.mem := by simp [loadVector]
@[simp] theorem loadVector_inputs (vec : Addr) (s : State) : (loadVector vec s).inputs = s.inputs := by simp [loadVector]
@[simp] theorem loadVector_cycles (vec : Addr) (s : State) : (loadVector vec s).cycles = s.cycles := by simp [loadVector]

@[simp] theorem pushFrame_cfg (s : State) : (pushFrame s).cfg = s.cfg := by simp [pushFrame]
@[simp] theorem pushFrame_a (s : State) : (pushFrame s).a = s.a := by simp [pushFrame]
@[simp] theorem pushFrame_x (s : State) : (pushFrame s).x = s.x := by simp [pushFrame]
@[simp] theorem pushFrame_pc (s : State) : (pushFrame s).pc = s.pc := by simp [pushFrame]
@[simp] theorem pushFrame_cc (s : State) : (pushFrame s).cc = s.cc := by simp [pushFrame]
@[simp] theorem pushFrame_pendExt (s : State) : (pushFrame s).pendExt = s.pendExt := by simp [pushFrame]
@[simp] theorem pushFrame_runState (s : State) : (pushFrame s).runState = s.runState := by simp [pushFrame]
@[simp] theorem pushFrame_intPin (s : State) : (pushFrame s).intPin = s.intPin := by simp [pushFrame]
@[simp] theorem pushFrame_timer (s : State) : (pushFrame s).timer = s.timer := by simp [pushFrame]
@[simp] theorem pushFrame_inputs (s : State) : (pushFrame s).inputs = s.inputs := by simp [pushFrame]
@[simp] theorem pushFrame_draws (s : State) : (pushFrame s).draws = s.draws := by simp [pushFrame]
@[simp] theorem pushFrame_cycles (s : State) : (pushFrame s).cycles = s.cycles := by simp [pushFrame]

@[simp] theorem pushFrame_sp (s : State) :
    (pushFrame s).sp = spDown s.cfg (spDown s.cfg (spDown s.cfg (spDown s.cfg (spDown s.cfg s.sp)))) := by
  simp [pushFrame]

@[simp] theorem takeException_cfg (vec : Addr) (s : State) : (takeException vec s).cfg = s.cfg := by simp [takeException]
@[simp] theorem takeException_a (vec : Addr) (s : State) : (takeException vec s).a = s.a := by simp [takeException]
@[simp] theorem takeException_x (vec : Addr) (s : State) : (takeException vec s).x = s.x := by simp [takeException]
@[simp] theorem takeException_pendExt (vec : Addr) (s : State) : (takeException vec s).pendExt = s.pendExt := by simp [takeException]
@[simp] theorem takeException_runState (vec : Addr) (s : State) : (takeException vec s).runState = s.runState := by simp [takeException]
@[simp] theorem takeException_intPin (vec : Addr) (s : State) : (takeException vec s).intPin = s.intPin := by simp [takeException]
@[simp] theorem takeException_timer (vec : Addr) (s : State) : (takeException vec s).timer = s.timer := by simp [takeException]
@[simp] theorem takeException_inputs (vec : Addr) (s : State) : (takeException vec s).inputs = s.inputs := by simp [takeException]
@[simp] theorem takeException_cycles (vec : Addr) (s : State) : (takeException vec s).cycles = s.cycles := by simp [takeException]

@[simp] theorem takeException_cc (vec : Addr) (s : State) : (takeException vec s).cc = { s.cc with i := true } := by
  simp [takeException]
@[simp] theorem takeException_sp (vec : Addr) (s : State) :
    (takeException vec s).sp = spDown s.cfg (spDown s.cfg (spDown s.cfg (spDown s.cfg (spDown s.cfg s.sp)))) := by
  simp [takeException]

@[simp] theorem returnFromException_cfg (s : State) : (returnFromException s).cfg = s.cfg := by simp [returnFromException]
@[simp] theorem returnFromException_pendExt (s : State) : (returnFromException s).pendExt = s.pendExt := by simp [returnFromException]
@[simp] theorem returnFromException_runState (s : State) : (returnFromException s).runState = s.runState := by simp [returnFromException]
@[simp] theorem returnFromException_intPin (s : State) : (returnFromException s).intPin = s.intPin := by simp [returnFromException]
@[simp] theorem returnFromException_timer (s : State) : (returnFromException s).timer = s.timer := by simp [returnFromException]
@[simp] theorem returnFromException_mem (s : State) : (returnFromException s).mem = s.mem := by simp [returnFromException]
@[simp] theorem returnFromException_inputs (s : State) : (returnFromException s).inputs = s.inputs := by simp [returnFromException]
@[simp] theorem returnFromException_cycles (s : State) : (returnFromException s).cycles = s.cycles := by simp [returnFromException]

@[simp] theorem returnFromException_sp (s : State) :
    (returnFromException s).sp = spUp s.cfg (spUp s.cfg (spUp s.cfg (spUp s.cfg (spUp s.cfg s.sp)))) := by
  simp [returnFromException]

@[simp] theorem takeReset_cfg (s : State) : (takeReset s).cfg = s.cfg := by simp [takeReset]
@[simp] theorem takeReset_a (s : State) : (takeReset s).a = s.a := by simp [takeReset]
@[simp] theorem takeReset_x (s : State) : (takeReset s).x = s.x := by simp [takeReset]
@[simp] theorem takeReset_intPin (s : State) : (takeReset s).intPin = s.intPin := by simp [takeReset]
@[simp] theorem takeReset_mem (s : State) : (takeReset s).mem = s.mem := by simp [takeReset]
@[simp] theorem takeReset_inputs (s : State) : (takeReset s).inputs = s.inputs := by simp [takeReset]
@[simp] theorem takeReset_cycles (s : State) : (takeReset s).cycles = s.cycles := by simp [takeReset]

@[simp] theorem takeReset_sp (s : State) : (takeReset s).sp = stackTop := by simp [takeReset]
@[simp] theorem takeReset_cc (s : State) : (takeReset s).cc = { s.cc with i := true } := by simp [takeReset]
@[simp] theorem takeReset_runState (s : State) : (takeReset s).runState = .running := by simp [takeReset]
@[simp] theorem takeReset_pendExt (s : State) : (takeReset s).pendExt = false := by simp [takeReset]

/-! ### Operands and instruction shapes -/

/-- Everything reading an operand adds to what is done with it. -/
theorem withOperand_eq (mode : Mode) (go : Byte → State → State) (s : State) :
    withOperand mode go s = go (readByte s (ea mode s)) (afterRead s (ea mode s)) := rfl

@[simp] theorem rmwMem_cfg (mode : Mode) (op : Byte → CC → Byte × CC) (s : State) : (rmwMem mode op s).cfg = s.cfg := by simp [rmwMem]
@[simp] theorem rmwMem_a (mode : Mode) (op : Byte → CC → Byte × CC) (s : State) : (rmwMem mode op s).a = s.a := by simp [rmwMem]
@[simp] theorem rmwMem_x (mode : Mode) (op : Byte → CC → Byte × CC) (s : State) : (rmwMem mode op s).x = s.x := by simp [rmwMem]
@[simp] theorem rmwMem_pc (mode : Mode) (op : Byte → CC → Byte × CC) (s : State) : (rmwMem mode op s).pc = s.pc := by simp [rmwMem]
@[simp] theorem rmwMem_sp (mode : Mode) (op : Byte → CC → Byte × CC) (s : State) : (rmwMem mode op s).sp = s.sp := by simp [rmwMem]
@[simp] theorem rmwMem_pendExt (mode : Mode) (op : Byte → CC → Byte × CC) (s : State) : (rmwMem mode op s).pendExt = s.pendExt := by simp [rmwMem]
@[simp] theorem rmwMem_runState (mode : Mode) (op : Byte → CC → Byte × CC) (s : State) : (rmwMem mode op s).runState = s.runState := by simp [rmwMem]
@[simp] theorem rmwMem_intPin (mode : Mode) (op : Byte → CC → Byte × CC) (s : State) : (rmwMem mode op s).intPin = s.intPin := by simp [rmwMem]
@[simp] theorem rmwMem_timer (mode : Mode) (op : Byte → CC → Byte × CC) (s : State) : (rmwMem mode op s).timer = s.timer := by simp [rmwMem]
@[simp] theorem rmwMem_inputs (mode : Mode) (op : Byte → CC → Byte × CC) (s : State) : (rmwMem mode op s).inputs = s.inputs := by simp [rmwMem]
@[simp] theorem rmwMem_cycles (mode : Mode) (op : Byte → CC → Byte × CC) (s : State) : (rmwMem mode op s).cycles = s.cycles := by simp [rmwMem]

@[simp] theorem modifyBit_cfg (d : Byte) (change : Byte → Byte) (s : State) : (modifyBit d change s).cfg = s.cfg := by simp [modifyBit]
@[simp] theorem modifyBit_a (d : Byte) (change : Byte → Byte) (s : State) : (modifyBit d change s).a = s.a := by simp [modifyBit]
@[simp] theorem modifyBit_x (d : Byte) (change : Byte → Byte) (s : State) : (modifyBit d change s).x = s.x := by simp [modifyBit]
@[simp] theorem modifyBit_pc (d : Byte) (change : Byte → Byte) (s : State) : (modifyBit d change s).pc = s.pc := by simp [modifyBit]
@[simp] theorem modifyBit_sp (d : Byte) (change : Byte → Byte) (s : State) : (modifyBit d change s).sp = s.sp := by simp [modifyBit]
@[simp] theorem modifyBit_cc (d : Byte) (change : Byte → Byte) (s : State) : (modifyBit d change s).cc = s.cc := by simp [modifyBit]
@[simp] theorem modifyBit_pendExt (d : Byte) (change : Byte → Byte) (s : State) : (modifyBit d change s).pendExt = s.pendExt := by simp [modifyBit]
@[simp] theorem modifyBit_runState (d : Byte) (change : Byte → Byte) (s : State) : (modifyBit d change s).runState = s.runState := by simp [modifyBit]
@[simp] theorem modifyBit_intPin (d : Byte) (change : Byte → Byte) (s : State) : (modifyBit d change s).intPin = s.intPin := by simp [modifyBit]
@[simp] theorem modifyBit_timer (d : Byte) (change : Byte → Byte) (s : State) : (modifyBit d change s).timer = s.timer := by simp [modifyBit]
@[simp] theorem modifyBit_inputs (d : Byte) (change : Byte → Byte) (s : State) : (modifyBit d change s).inputs = s.inputs := by simp [modifyBit]
@[simp] theorem modifyBit_cycles (d : Byte) (change : Byte → Byte) (s : State) : (modifyBit d change s).cycles = s.cycles := by simp [modifyBit]

@[simp] theorem storeByte_cfg (mode : Mode) (v : Byte) (s : State) : (storeByte mode v s).cfg = s.cfg := by simp [storeByte]
@[simp] theorem storeByte_a (mode : Mode) (v : Byte) (s : State) : (storeByte mode v s).a = s.a := by simp [storeByte]
@[simp] theorem storeByte_x (mode : Mode) (v : Byte) (s : State) : (storeByte mode v s).x = s.x := by simp [storeByte]
@[simp] theorem storeByte_pc (mode : Mode) (v : Byte) (s : State) : (storeByte mode v s).pc = s.pc := by simp [storeByte]
@[simp] theorem storeByte_sp (mode : Mode) (v : Byte) (s : State) : (storeByte mode v s).sp = s.sp := by simp [storeByte]
@[simp] theorem storeByte_pendExt (mode : Mode) (v : Byte) (s : State) : (storeByte mode v s).pendExt = s.pendExt := by simp [storeByte]
@[simp] theorem storeByte_runState (mode : Mode) (v : Byte) (s : State) : (storeByte mode v s).runState = s.runState := by simp [storeByte]
@[simp] theorem storeByte_intPin (mode : Mode) (v : Byte) (s : State) : (storeByte mode v s).intPin = s.intPin := by simp [storeByte]
@[simp] theorem storeByte_timer (mode : Mode) (v : Byte) (s : State) : (storeByte mode v s).timer = s.timer := by simp [storeByte]
@[simp] theorem storeByte_inputs (mode : Mode) (v : Byte) (s : State) : (storeByte mode v s).inputs = s.inputs := by simp [storeByte]
@[simp] theorem storeByte_draws (mode : Mode) (v : Byte) (s : State) : (storeByte mode v s).draws = s.draws := by simp [storeByte]
@[simp] theorem storeByte_cycles (mode : Mode) (v : Byte) (s : State) : (storeByte mode v s).cycles = s.cycles := by simp [storeByte]

@[simp] theorem branchIf_cfg (cond : Bool) (r : Byte) (s : State) : (branchIf cond r s).cfg = s.cfg := by cases cond <;> rfl
@[simp] theorem branchIf_a (cond : Bool) (r : Byte) (s : State) : (branchIf cond r s).a = s.a := by cases cond <;> rfl
@[simp] theorem branchIf_x (cond : Bool) (r : Byte) (s : State) : (branchIf cond r s).x = s.x := by cases cond <;> rfl
@[simp] theorem branchIf_sp (cond : Bool) (r : Byte) (s : State) : (branchIf cond r s).sp = s.sp := by cases cond <;> rfl
@[simp] theorem branchIf_cc (cond : Bool) (r : Byte) (s : State) : (branchIf cond r s).cc = s.cc := by cases cond <;> rfl
@[simp] theorem branchIf_pendExt (cond : Bool) (r : Byte) (s : State) : (branchIf cond r s).pendExt = s.pendExt := by cases cond <;> rfl
@[simp] theorem branchIf_runState (cond : Bool) (r : Byte) (s : State) : (branchIf cond r s).runState = s.runState := by cases cond <;> rfl
@[simp] theorem branchIf_intPin (cond : Bool) (r : Byte) (s : State) : (branchIf cond r s).intPin = s.intPin := by cases cond <;> rfl
@[simp] theorem branchIf_timer (cond : Bool) (r : Byte) (s : State) : (branchIf cond r s).timer = s.timer := by cases cond <;> rfl
@[simp] theorem branchIf_mem (cond : Bool) (r : Byte) (s : State) : (branchIf cond r s).mem = s.mem := by cases cond <;> rfl
@[simp] theorem branchIf_inputs (cond : Bool) (r : Byte) (s : State) : (branchIf cond r s).inputs = s.inputs := by cases cond <;> rfl
@[simp] theorem branchIf_draws (cond : Bool) (r : Byte) (s : State) : (branchIf cond r s).draws = s.draws := by cases cond <;> rfl
@[simp] theorem branchIf_cycles (cond : Bool) (r : Byte) (s : State) : (branchIf cond r s).cycles = s.cycles := by cases cond <;> rfl

@[simp] theorem branchOnBit_cfg (n : BitVec 3) (d r : Byte) (want : Bool) (s : State) : (branchOnBit n d r want s).cfg = s.cfg := by simp [branchOnBit]
@[simp] theorem branchOnBit_a (n : BitVec 3) (d r : Byte) (want : Bool) (s : State) : (branchOnBit n d r want s).a = s.a := by simp [branchOnBit]
@[simp] theorem branchOnBit_x (n : BitVec 3) (d r : Byte) (want : Bool) (s : State) : (branchOnBit n d r want s).x = s.x := by simp [branchOnBit]
@[simp] theorem branchOnBit_sp (n : BitVec 3) (d r : Byte) (want : Bool) (s : State) : (branchOnBit n d r want s).sp = s.sp := by simp [branchOnBit]
@[simp] theorem branchOnBit_pendExt (n : BitVec 3) (d r : Byte) (want : Bool) (s : State) : (branchOnBit n d r want s).pendExt = s.pendExt := by simp [branchOnBit]
@[simp] theorem branchOnBit_runState (n : BitVec 3) (d r : Byte) (want : Bool) (s : State) : (branchOnBit n d r want s).runState = s.runState := by simp [branchOnBit]
@[simp] theorem branchOnBit_intPin (n : BitVec 3) (d r : Byte) (want : Bool) (s : State) : (branchOnBit n d r want s).intPin = s.intPin := by simp [branchOnBit]
@[simp] theorem branchOnBit_timer (n : BitVec 3) (d r : Byte) (want : Bool) (s : State) : (branchOnBit n d r want s).timer = s.timer := by simp [branchOnBit]
@[simp] theorem branchOnBit_mem (n : BitVec 3) (d r : Byte) (want : Bool) (s : State) : (branchOnBit n d r want s).mem = s.mem := by simp [branchOnBit]
@[simp] theorem branchOnBit_inputs (n : BitVec 3) (d r : Byte) (want : Bool) (s : State) : (branchOnBit n d r want s).inputs = s.inputs := by simp [branchOnBit]
@[simp] theorem branchOnBit_cycles (n : BitVec 3) (d r : Byte) (want : Bool) (s : State) : (branchOnBit n d r want s).cycles = s.cycles := by simp [branchOnBit]

end Sys2Proof.Machine
end

