-- ==== Sys2Proof/Laws/Events.lean ====
section
/-! SUPPORT. What the steps that run no instruction can do: the fields the inputs and an entry leave alone, the end of STOP and
WAIT, and the cycles each step counts. -/

namespace Sys2Proof.Machine

/-! ### The inputs of a boundary -/

@[simp] theorem sampleInputs_cfg (s : State) : (sampleInputs s).cfg = s.cfg := by unfold sampleInputs; split <;> rfl
@[simp] theorem sampleInputs_cc (s : State) : (sampleInputs s).cc = s.cc := by unfold sampleInputs; split <;> rfl
@[simp] theorem sampleInputs_pc (s : State) : (sampleInputs s).pc = s.pc := by unfold sampleInputs; split <;> rfl
@[simp] theorem sampleInputs_sp (s : State) : (sampleInputs s).sp = s.sp := by unfold sampleInputs; split <;> rfl
@[simp] theorem sampleInputs_mem (s : State) : (sampleInputs s).mem = s.mem := by unfold sampleInputs; split <;> rfl
@[simp] theorem sampleInputs_runState (s : State) : (sampleInputs s).runState = s.runState := by
  unfold sampleInputs; split <;> rfl
@[simp] theorem sampleInputs_cycles (s : State) : (sampleInputs s).cycles = s.cycles := by unfold sampleInputs; split <;> rfl

/-! ### Reset and hardware interrupt entry -/

@[simp] theorem interruptEntry_cfg (src : Source) (s : State) : (interruptEntry src s).cfg = s.cfg := by
  cases src <;> simp [interruptEntry]
@[simp] theorem interruptEntry_cycles (src : Source) (s : State) : (interruptEntry src s).cycles = s.cycles := by
  cases src <;> simp [interruptEntry]
@[simp] theorem interruptEntry_runState (src : Source) (s : State) : (interruptEntry src s).runState = .running := rfl

theorem resetStep_runState (s : State) : (resetStep s).runState = .running := takeReset_runState s
theorem interruptStep_runState (src : Source) (s : State) : (interruptStep src s).runState = .running :=
  interruptEntry_runState src s

/-! ### Their cycles -/

theorem restartDelay_stopped {s : State} (h : s.runState = .stopped) :
    restartDelay s = 1920 + Config.cyclesRestartBeyond s.cfg := by simp [restartDelay, h]

theorem restartDelay_not_stopped {s : State} (h : s.runState ≠ .stopped) : restartDelay s = 0 := by
  unfold restartDelay
  cases hr : s.runState
  · rfl
  · exact absurd hr h
  · rfl

theorem resetStep_cycles (s : State) :
    (resetStep s).cycles = s.cycles + (Config.cyclesReset s.cfg + restartDelay s) := by simp [resetStep, addCycles]

theorem interruptStep_cycles (src : Source) (s : State) : (interruptStep src s).cycles =
    s.cycles + (Config.interruptLatency s.cfg + Config.cyclesIntEntry s.cfg + restartDelay s) := by
  simp [interruptStep, addCycles]

end Sys2Proof.Machine
end

