-- ==== Sys2Proof/Laws/PerInstr.lean ====
section
/-! SUPPORT. The family EncodedLength, one lemma per constructor of Instr: an instruction's bytes are as many as its opcode's
high nibble says, one to three (spec/30_encoding.md R91, R94). -/

namespace Sys2Proof.Laws

/-- The length of an instruction's bytes agrees with the length its first byte announces. -/
def EncodedLength.Statement (i : Instr) : Prop :=
  (encode i).length = instrLength ((encode i).headD 0) ∧ 1 ≤ (encode i).length ∧ (encode i).length ≤ 3

/-- A bit opcode keeps the high nibble of its base. -/
theorem instrLength_bitOpcode (n : BitVec 3) :
    instrLength (bitOpcode 0x00 n) = 3 ∧ instrLength (bitOpcode 0x01 n) = 3 ∧
      instrLength (bitOpcode 0x10 n) = 2 ∧ instrLength (bitOpcode 0x11 n) = 2 := by
  revert n
  decide

theorem EncodedLength.brset (n : BitVec 3) (d : Byte) (r : Byte) : EncodedLength.Statement (.brset n d r) :=
  ⟨((instrLength_bitOpcode n).1).symm, of_decide_eq_true rfl, of_decide_eq_true rfl⟩
theorem EncodedLength.brclr (n : BitVec 3) (d : Byte) (r : Byte) : EncodedLength.Statement (.brclr n d r) :=
  ⟨((instrLength_bitOpcode n).2.1).symm, of_decide_eq_true rfl, of_decide_eq_true rfl⟩
theorem EncodedLength.bset (n : BitVec 3) (d : Byte) : EncodedLength.Statement (.bset n d) :=
  ⟨((instrLength_bitOpcode n).2.2.1).symm, of_decide_eq_true rfl, of_decide_eq_true rfl⟩
theorem EncodedLength.bclr (n : BitVec 3) (d : Byte) : EncodedLength.Statement (.bclr n d) :=
  ⟨((instrLength_bitOpcode n).2.2.2).symm, of_decide_eq_true rfl, of_decide_eq_true rfl⟩
theorem EncodedLength.bra (r : Byte) : EncodedLength.Statement (.bra r) :=
  ⟨(show instrLength 0x20 = 2 by decide).symm, of_decide_eq_true rfl, of_decide_eq_true rfl⟩
theorem EncodedLength.brn (r : Byte) : EncodedLength.Statement (.brn r) :=
  ⟨(show instrLength 0x21 = 2 by decide).symm, of_decide_eq_true rfl, of_decide_eq_true rfl⟩
theorem EncodedLength.bhi (r : Byte) : EncodedLength.Statement (.bhi r) :=
  ⟨(show instrLength 0x22 = 2 by decide).symm, of_decide_eq_true rfl, of_decide_eq_true rfl⟩
theorem EncodedLength.bls (r : Byte) : EncodedLength.Statement (.bls r) :=
  ⟨(show instrLength 0x23 = 2 by decide).symm, of_decide_eq_true rfl, of_decide_eq_true rfl⟩
theorem EncodedLength.bcc (r : Byte) : EncodedLength.Statement (.bcc r) :=
  ⟨(show instrLength 0x24 = 2 by decide).symm, of_decide_eq_true rfl, of_decide_eq_true rfl⟩
theorem EncodedLength.bcs (r : Byte) : EncodedLength.Statement (.bcs r) :=
  ⟨(show instrLength 0x25 = 2 by decide).symm, of_decide_eq_true rfl, of_decide_eq_true rfl⟩
theorem EncodedLength.bne (r : Byte) : EncodedLength.Statement (.bne r) :=
  ⟨(show instrLength 0x26 = 2 by decide).symm, of_decide_eq_true rfl, of_decide_eq_true rfl⟩
theorem EncodedLength.beq (r : Byte) : EncodedLength.Statement (.beq r) :=
  ⟨(show instrLength 0x27 = 2 by decide).symm, of_decide_eq_true rfl, of_decide_eq_true rfl⟩
theorem EncodedLength.bhcc (r : Byte) : EncodedLength.Statement (.bhcc r) :=
  ⟨(show instrLength 0x28 = 2 by decide).symm, of_decide_eq_true rfl, of_decide_eq_true rfl⟩
theorem EncodedLength.bhcs (r : Byte) : EncodedLength.Statement (.bhcs r) :=
  ⟨(show instrLength 0x29 = 2 by decide).symm, of_decide_eq_true rfl, of_decide_eq_true rfl⟩
theorem EncodedLength.bpl (r : Byte) : EncodedLength.Statement (.bpl r) :=
  ⟨(show instrLength 0x2A = 2 by decide).symm, of_decide_eq_true rfl, of_decide_eq_true rfl⟩
theorem EncodedLength.bmi (r : Byte) : EncodedLength.Statement (.bmi r) :=
  ⟨(show instrLength 0x2B = 2 by decide).symm, of_decide_eq_true rfl, of_decide_eq_true rfl⟩
theorem EncodedLength.bmc (r : Byte) : EncodedLength.Statement (.bmc r) :=
  ⟨(show instrLength 0x2C = 2 by decide).symm, of_decide_eq_true rfl, of_decide_eq_true rfl⟩
theorem EncodedLength.bms (r : Byte) : EncodedLength.Statement (.bms r) :=
  ⟨(show instrLength 0x2D = 2 by decide).symm, of_decide_eq_true rfl, of_decide_eq_true rfl⟩
theorem EncodedLength.bil (r : Byte) : EncodedLength.Statement (.bil r) :=
  ⟨(show instrLength 0x2E = 2 by decide).symm, of_decide_eq_true rfl, of_decide_eq_true rfl⟩
theorem EncodedLength.bih (r : Byte) : EncodedLength.Statement (.bih r) :=
  ⟨(show instrLength 0x2F = 2 by decide).symm, of_decide_eq_true rfl, of_decide_eq_true rfl⟩
theorem EncodedLength.bhs (r : Byte) : EncodedLength.Statement (.bhs r) :=
  ⟨(show instrLength 0x24 = 2 by decide).symm, of_decide_eq_true rfl, of_decide_eq_true rfl⟩
theorem EncodedLength.blo (r : Byte) : EncodedLength.Statement (.blo r) :=
  ⟨(show instrLength 0x25 = 2 by decide).symm, of_decide_eq_true rfl, of_decide_eq_true rfl⟩
theorem EncodedLength.bsr (r : Byte) : EncodedLength.Statement (.bsr r) :=
  ⟨(show instrLength 0xAD = 2 by decide).symm, of_decide_eq_true rfl, of_decide_eq_true rfl⟩
theorem EncodedLength.negDir (d : Byte) : EncodedLength.Statement (.negDir d) :=
  ⟨(show instrLength 0x30 = 2 by decide).symm, of_decide_eq_true rfl, of_decide_eq_true rfl⟩
theorem EncodedLength.nega : EncodedLength.Statement (.nega) :=
  ⟨(show instrLength 0x40 = 1 by decide).symm, of_decide_eq_true rfl, of_decide_eq_true rfl⟩
theorem EncodedLength.negx : EncodedLength.Statement (.negx) :=
  ⟨(show instrLength 0x50 = 1 by decide).symm, of_decide_eq_true rfl, of_decide_eq_true rfl⟩
theorem EncodedLength.negIx1 (o : Byte) : EncodedLength.Statement (.negIx1 o) :=
  ⟨(show instrLength 0x60 = 2 by decide).symm, of_decide_eq_true rfl, of_decide_eq_true rfl⟩
theorem EncodedLength.negIx : EncodedLength.Statement (.negIx) :=
  ⟨(show instrLength 0x70 = 1 by decide).symm, of_decide_eq_true rfl, of_decide_eq_true rfl⟩
theorem EncodedLength.comDir (d : Byte) : EncodedLength.Statement (.comDir d) :=
  ⟨(show instrLength 0x33 = 2 by decide).symm, of_decide_eq_true rfl, of_decide_eq_true rfl⟩
theorem EncodedLength.coma : EncodedLength.Statement (.coma) :=
  ⟨(show instrLength 0x43 = 1 by decide).symm, of_decide_eq_true rfl, of_decide_eq_true rfl⟩
theorem EncodedLength.comx : EncodedLength.Statement (.comx) :=
  ⟨(show instrLength 0x53 = 1 by decide).symm, of_decide_eq_true rfl, of_decide_eq_true rfl⟩
theorem EncodedLength.comIx1 (o : Byte) : EncodedLength.Statement (.comIx1 o) :=
  ⟨(show instrLength 0x63 = 2 by decide).symm, of_decide_eq_true rfl, of_decide_eq_true rfl⟩
theorem EncodedLength.comIx : EncodedLength.Statement (.comIx) :=
  ⟨(show instrLength 0x73 = 1 by decide).symm, of_decide_eq_true rfl, of_decide_eq_true rfl⟩
theorem EncodedLength.lsrDir (d : Byte) : EncodedLength.Statement (.lsrDir d) :=
  ⟨(show instrLength 0x34 = 2 by decide).symm, of_decide_eq_true rfl, of_decide_eq_true rfl⟩
theorem EncodedLength.lsra : EncodedLength.Statement (.lsra) :=
  ⟨(show instrLength 0x44 = 1 by decide).symm, of_decide_eq_true rfl, of_decide_eq_true rfl⟩
theorem EncodedLength.lsrx : EncodedLength.Statement (.lsrx) :=
  ⟨(show instrLength 0x54 = 1 by decide).symm, of_decide_eq_true rfl, of_decide_eq_true rfl⟩
theorem EncodedLength.lsrIx1 (o : Byte) : EncodedLength.Statement (.lsrIx1 o) :=
  ⟨(show instrLength 0x64 = 2 by decide).symm, of_decide_eq_true rfl, of_decide_eq_true rfl⟩
theorem EncodedLength.lsrIx : EncodedLength.Statement (.lsrIx) :=
  ⟨(show instrLength 0x74 = 1 by decide).symm, of_decide_eq_true rfl, of_decide_eq_true rfl⟩
theorem EncodedLength.rorDir (d : Byte) : EncodedLength.Statement (.rorDir d) :=
  ⟨(show instrLength 0x36 = 2 by decide).symm, of_decide_eq_true rfl, of_decide_eq_true rfl⟩
theorem EncodedLength.rora : EncodedLength.Statement (.rora) :=
  ⟨(show instrLength 0x46 = 1 by decide).symm, of_decide_eq_true rfl, of_decide_eq_true rfl⟩
theorem EncodedLength.rorx : EncodedLength.Statement (.rorx) :=
  ⟨(show instrLength 0x56 = 1 by decide).symm, of_decide_eq_true rfl, of_decide_eq_true rfl⟩
theorem EncodedLength.rorIx1 (o : Byte) : EncodedLength.Statement (.rorIx1 o) :=
  ⟨(show instrLength 0x66 = 2 by decide).symm, of_decide_eq_true rfl, of_decide_eq_true rfl⟩
theorem EncodedLength.rorIx : EncodedLength.Statement (.rorIx) :=
  ⟨(show instrLength 0x76 = 1 by decide).symm, of_decide_eq_true rfl, of_decide_eq_true rfl⟩
theorem EncodedLength.asrDir (d : Byte) : EncodedLength.Statement (.asrDir d) :=
  ⟨(show instrLength 0x37 = 2 by decide).symm, of_decide_eq_true rfl, of_decide_eq_true rfl⟩
theorem EncodedLength.asra : EncodedLength.Statement (.asra) :=
  ⟨(show instrLength 0x47 = 1 by decide).symm, of_decide_eq_true rfl, of_decide_eq_true rfl⟩
theorem EncodedLength.asrx : EncodedLength.Statement (.asrx) :=
  ⟨(show instrLength 0x57 = 1 by decide).symm, of_decide_eq_true rfl, of_decide_eq_true rfl⟩
theorem EncodedLength.asrIx1 (o : Byte) : EncodedLength.Statement (.asrIx1 o) :=
  ⟨(show instrLength 0x67 = 2 by decide).symm, of_decide_eq_true rfl, of_decide_eq_true rfl⟩
theorem EncodedLength.asrIx : EncodedLength.Statement (.asrIx) :=
  ⟨(show instrLength 0x77 = 1 by decide).symm, of_decide_eq_true rfl, of_decide_eq_true rfl⟩
theorem EncodedLength.lslDir (d : Byte) : EncodedLength.Statement (.lslDir d) :=
  ⟨(show instrLength 0x38 = 2 by decide).symm, of_decide_eq_true rfl, of_decide_eq_true rfl⟩
theorem EncodedLength.aslDir (d : Byte) : EncodedLength.Statement (.aslDir d) :=
  ⟨(show instrLength 0x38 = 2 by decide).symm, of_decide_eq_true rfl, of_decide_eq_true rfl⟩
theorem EncodedLength.lsla : EncodedLength.Statement (.lsla) :=
  ⟨(show instrLength 0x48 = 1 by decide).symm, of_decide_eq_true rfl, of_decide_eq_true rfl⟩
theorem EncodedLength.asla : EncodedLength.Statement (.asla) :=
  ⟨(show instrLength 0x48 = 1 by decide).symm, of_decide_eq_true rfl, of_decide_eq_true rfl⟩
theorem EncodedLength.lslx : EncodedLength.Statement (.lslx) :=
  ⟨(show instrLength 0x58 = 1 by decide).symm, of_decide_eq_true rfl, of_decide_eq_true rfl⟩
theorem EncodedLength.aslx : EncodedLength.Statement (.aslx) :=
  ⟨(show instrLength 0x58 = 1 by decide).symm, of_decide_eq_true rfl, of_decide_eq_true rfl⟩
theorem EncodedLength.lslIx1 (o : Byte) : EncodedLength.Statement (.lslIx1 o) :=
  ⟨(show instrLength 0x68 = 2 by decide).symm, of_decide_eq_true rfl, of_decide_eq_true rfl⟩
theorem EncodedLength.aslIx1 (o : Byte) : EncodedLength.Statement (.aslIx1 o) :=
  ⟨(show instrLength 0x68 = 2 by decide).symm, of_decide_eq_true rfl, of_decide_eq_true rfl⟩
theorem EncodedLength.lslIx : EncodedLength.Statement (.lslIx) :=
  ⟨(show instrLength 0x78 = 1 by decide).symm, of_decide_eq_true rfl, of_decide_eq_true rfl⟩
theorem EncodedLength.aslIx : EncodedLength.Statement (.aslIx) :=
  ⟨(show instrLength 0x78 = 1 by decide).symm, of_decide_eq_true rfl, of_decide_eq_true rfl⟩
theorem EncodedLength.rolDir (d : Byte) : EncodedLength.Statement (.rolDir d) :=
  ⟨(show instrLength 0x39 = 2 by decide).symm, of_decide_eq_true rfl, of_decide_eq_true rfl⟩
theorem EncodedLength.rola : EncodedLength.Statement (.rola) :=
  ⟨(show instrLength 0x49 = 1 by decide).symm, of_decide_eq_true rfl, of_decide_eq_true rfl⟩
theorem EncodedLength.rolx : EncodedLength.Statement (.rolx) :=
  ⟨(show instrLength 0x59 = 1 by decide).symm, of_decide_eq_true rfl, of_decide_eq_true rfl⟩
theorem EncodedLength.rolIx1 (o : Byte) : EncodedLength.Statement (.rolIx1 o) :=
  ⟨(show instrLength 0x69 = 2 by decide).symm, of_decide_eq_true rfl, of_decide_eq_true rfl⟩
theorem EncodedLength.rolIx : EncodedLength.Statement (.rolIx) :=
  ⟨(show instrLength 0x79 = 1 by decide).symm, of_decide_eq_true rfl, of_decide_eq_true rfl⟩
theorem EncodedLength.decDir (d : Byte) : EncodedLength.Statement (.decDir d) :=
  ⟨(show instrLength 0x3A = 2 by decide).symm, of_decide_eq_true rfl, of_decide_eq_true rfl⟩
theorem EncodedLength.deca : EncodedLength.Statement (.deca) :=
  ⟨(show instrLength 0x4A = 1 by decide).symm, of_decide_eq_true rfl, of_decide_eq_true rfl⟩
theorem EncodedLength.decx : EncodedLength.Statement (.decx) :=
  ⟨(show instrLength 0x5A = 1 by decide).symm, of_decide_eq_true rfl, of_decide_eq_true rfl⟩
theorem EncodedLength.decIx1 (o : Byte) : EncodedLength.Statement (.decIx1 o) :=
  ⟨(show instrLength 0x6A = 2 by decide).symm, of_decide_eq_true rfl, of_decide_eq_true rfl⟩
theorem EncodedLength.decIx : EncodedLength.Statement (.decIx) :=
  ⟨(show instrLength 0x7A = 1 by decide).symm, of_decide_eq_true rfl, of_decide_eq_true rfl⟩
theorem EncodedLength.incDir (d : Byte) : EncodedLength.Statement (.incDir d) :=
  ⟨(show instrLength 0x3C = 2 by decide).symm, of_decide_eq_true rfl, of_decide_eq_true rfl⟩
theorem EncodedLength.inca : EncodedLength.Statement (.inca) :=
  ⟨(show instrLength 0x4C = 1 by decide).symm, of_decide_eq_true rfl, of_decide_eq_true rfl⟩
theorem EncodedLength.incx : EncodedLength.Statement (.incx) :=
  ⟨(show instrLength 0x5C = 1 by decide).symm, of_decide_eq_true rfl, of_decide_eq_true rfl⟩
theorem EncodedLength.incIx1 (o : Byte) : EncodedLength.Statement (.incIx1 o) :=
  ⟨(show instrLength 0x6C = 2 by decide).symm, of_decide_eq_true rfl, of_decide_eq_true rfl⟩
theorem EncodedLength.incIx : EncodedLength.Statement (.incIx) :=
  ⟨(show instrLength 0x7C = 1 by decide).symm, of_decide_eq_true rfl, of_decide_eq_true rfl⟩
theorem EncodedLength.tstDir (d : Byte) : EncodedLength.Statement (.tstDir d) :=
  ⟨(show instrLength 0x3D = 2 by decide).symm, of_decide_eq_true rfl, of_decide_eq_true rfl⟩
theorem EncodedLength.tsta : EncodedLength.Statement (.tsta) :=
  ⟨(show instrLength 0x4D = 1 by decide).symm, of_decide_eq_true rfl, of_decide_eq_true rfl⟩
theorem EncodedLength.tstx : EncodedLength.Statement (.tstx) :=
  ⟨(show instrLength 0x5D = 1 by decide).symm, of_decide_eq_true rfl, of_decide_eq_true rfl⟩
theorem EncodedLength.tstIx1 (o : Byte) : EncodedLength.Statement (.tstIx1 o) :=
  ⟨(show instrLength 0x6D = 2 by decide).symm, of_decide_eq_true rfl, of_decide_eq_true rfl⟩
theorem EncodedLength.tstIx : EncodedLength.Statement (.tstIx) :=
  ⟨(show instrLength 0x7D = 1 by decide).symm, of_decide_eq_true rfl, of_decide_eq_true rfl⟩
theorem EncodedLength.clrDir (d : Byte) : EncodedLength.Statement (.clrDir d) :=
  ⟨(show instrLength 0x3F = 2 by decide).symm, of_decide_eq_true rfl, of_decide_eq_true rfl⟩
theorem EncodedLength.clra : EncodedLength.Statement (.clra) :=
  ⟨(show instrLength 0x4F = 1 by decide).symm, of_decide_eq_true rfl, of_decide_eq_true rfl⟩
theorem EncodedLength.clrx : EncodedLength.Statement (.clrx) :=
  ⟨(show instrLength 0x5F = 1 by decide).symm, of_decide_eq_true rfl, of_decide_eq_true rfl⟩
theorem EncodedLength.clrIx1 (o : Byte) : EncodedLength.Statement (.clrIx1 o) :=
  ⟨(show instrLength 0x6F = 2 by decide).symm, of_decide_eq_true rfl, of_decide_eq_true rfl⟩
theorem EncodedLength.clrIx : EncodedLength.Statement (.clrIx) :=
  ⟨(show instrLength 0x7F = 1 by decide).symm, of_decide_eq_true rfl, of_decide_eq_true rfl⟩
theorem EncodedLength.rti : EncodedLength.Statement (.rti) :=
  ⟨(show instrLength 0x80 = 1 by decide).symm, of_decide_eq_true rfl, of_decide_eq_true rfl⟩
theorem EncodedLength.rts : EncodedLength.Statement (.rts) :=
  ⟨(show instrLength 0x81 = 1 by decide).symm, of_decide_eq_true rfl, of_decide_eq_true rfl⟩
theorem EncodedLength.swi : EncodedLength.Statement (.swi) :=
  ⟨(show instrLength 0x83 = 1 by decide).symm, of_decide_eq_true rfl, of_decide_eq_true rfl⟩
theorem EncodedLength.stop : EncodedLength.Statement (.stop) :=
  ⟨(show instrLength 0x8E = 1 by decide).symm, of_decide_eq_true rfl, of_decide_eq_true rfl⟩
theorem EncodedLength.wait : EncodedLength.Statement (.wait) :=
  ⟨(show instrLength 0x8F = 1 by decide).symm, of_decide_eq_true rfl, of_decide_eq_true rfl⟩
theorem EncodedLength.tax : EncodedLength.Statement (.tax) :=
  ⟨(show instrLength 0x97 = 1 by decide).symm, of_decide_eq_true rfl, of_decide_eq_true rfl⟩
theorem EncodedLength.clc : EncodedLength.Statement (.clc) :=
  ⟨(show instrLength 0x98 = 1 by decide).symm, of_decide_eq_true rfl, of_decide_eq_true rfl⟩
theorem EncodedLength.sec : EncodedLength.Statement (.sec) :=
  ⟨(show instrLength 0x99 = 1 by decide).symm, of_decide_eq_true rfl, of_decide_eq_true rfl⟩
theorem EncodedLength.cli : EncodedLength.Statement (.cli) :=
  ⟨(show instrLength 0x9A = 1 by decide).symm, of_decide_eq_true rfl, of_decide_eq_true rfl⟩
theorem EncodedLength.sei : EncodedLength.Statement (.sei) :=
  ⟨(show instrLength 0x9B = 1 by decide).symm, of_decide_eq_true rfl, of_decide_eq_true rfl⟩
theorem EncodedLength.rsp : EncodedLength.Statement (.rsp) :=
  ⟨(show instrLength 0x9C = 1 by decide).symm, of_decide_eq_true rfl, of_decide_eq_true rfl⟩
theorem EncodedLength.nop : EncodedLength.Statement (.nop) :=
  ⟨(show instrLength 0x9D = 1 by decide).symm, of_decide_eq_true rfl, of_decide_eq_true rfl⟩
theorem EncodedLength.txa : EncodedLength.Statement (.txa) :=
  ⟨(show instrLength 0x9F = 1 by decide).symm, of_decide_eq_true rfl, of_decide_eq_true rfl⟩
theorem EncodedLength.subImm (v : Byte) : EncodedLength.Statement (.subImm v) :=
  ⟨(show instrLength 0xA0 = 2 by decide).symm, of_decide_eq_true rfl, of_decide_eq_true rfl⟩
theorem EncodedLength.subDir (d : Byte) : EncodedLength.Statement (.subDir d) :=
  ⟨(show instrLength 0xB0 = 2 by decide).symm, of_decide_eq_true rfl, of_decide_eq_true rfl⟩
theorem EncodedLength.subExt (a : Addr) : EncodedLength.Statement (.subExt a) :=
  ⟨(show instrLength 0xC0 = 3 by decide).symm, of_decide_eq_true rfl, of_decide_eq_true rfl⟩
theorem EncodedLength.subIx2 (o : Addr) : EncodedLength.Statement (.subIx2 o) :=
  ⟨(show instrLength 0xD0 = 3 by decide).symm, of_decide_eq_true rfl, of_decide_eq_true rfl⟩
theorem EncodedLength.subIx1 (o : Byte) : EncodedLength.Statement (.subIx1 o) :=
  ⟨(show instrLength 0xE0 = 2 by decide).symm, of_decide_eq_true rfl, of_decide_eq_true rfl⟩
theorem EncodedLength.subIx : EncodedLength.Statement (.subIx) :=
  ⟨(show instrLength 0xF0 = 1 by decide).symm, of_decide_eq_true rfl, of_decide_eq_true rfl⟩
theorem EncodedLength.cmpImm (v : Byte) : EncodedLength.Statement (.cmpImm v) :=
  ⟨(show instrLength 0xA1 = 2 by decide).symm, of_decide_eq_true rfl, of_decide_eq_true rfl⟩
theorem EncodedLength.cmpDir (d : Byte) : EncodedLength.Statement (.cmpDir d) :=
  ⟨(show instrLength 0xB1 = 2 by decide).symm, of_decide_eq_true rfl, of_decide_eq_true rfl⟩
theorem EncodedLength.cmpExt (a : Addr) : EncodedLength.Statement (.cmpExt a) :=
  ⟨(show instrLength 0xC1 = 3 by decide).symm, of_decide_eq_true rfl, of_decide_eq_true rfl⟩
theorem EncodedLength.cmpIx2 (o : Addr) : EncodedLength.Statement (.cmpIx2 o) :=
  ⟨(show instrLength 0xD1 = 3 by decide).symm, of_decide_eq_true rfl, of_decide_eq_true rfl⟩
theorem EncodedLength.cmpIx1 (o : Byte) : EncodedLength.Statement (.cmpIx1 o) :=
  ⟨(show instrLength 0xE1 = 2 by decide).symm, of_decide_eq_true rfl, of_decide_eq_true rfl⟩
theorem EncodedLength.cmpIx : EncodedLength.Statement (.cmpIx) :=
  ⟨(show instrLength 0xF1 = 1 by decide).symm, of_decide_eq_true rfl, of_decide_eq_true rfl⟩
theorem EncodedLength.sbcImm (v : Byte) : EncodedLength.Statement (.sbcImm v) :=
  ⟨(show instrLength 0xA2 = 2 by decide).symm, of_decide_eq_true rfl, of_decide_eq_true rfl⟩
theorem EncodedLength.sbcDir (d : Byte) : EncodedLength.Statement (.sbcDir d) :=
  ⟨(show instrLength 0xB2 = 2 by decide).symm, of_decide_eq_true rfl, of_decide_eq_true rfl⟩
theorem EncodedLength.sbcExt (a : Addr) : EncodedLength.Statement (.sbcExt a) :=
  ⟨(show instrLength 0xC2 = 3 by decide).symm, of_decide_eq_true rfl, of_decide_eq_true rfl⟩
theorem EncodedLength.sbcIx2 (o : Addr) : EncodedLength.Statement (.sbcIx2 o) :=
  ⟨(show instrLength 0xD2 = 3 by decide).symm, of_decide_eq_true rfl, of_decide_eq_true rfl⟩
theorem EncodedLength.sbcIx1 (o : Byte) : EncodedLength.Statement (.sbcIx1 o) :=
  ⟨(show instrLength 0xE2 = 2 by decide).symm, of_decide_eq_true rfl, of_decide_eq_true rfl⟩
theorem EncodedLength.sbcIx : EncodedLength.Statement (.sbcIx) :=
  ⟨(show instrLength 0xF2 = 1 by decide).symm, of_decide_eq_true rfl, of_decide_eq_true rfl⟩
theorem EncodedLength.cpxImm (v : Byte) : EncodedLength.Statement (.cpxImm v) :=
  ⟨(show instrLength 0xA3 = 2 by decide).symm, of_decide_eq_true rfl, of_decide_eq_true rfl⟩
theorem EncodedLength.cpxDir (d : Byte) : EncodedLength.Statement (.cpxDir d) :=
  ⟨(show instrLength 0xB3 = 2 by decide).symm, of_decide_eq_true rfl, of_decide_eq_true rfl⟩
theorem EncodedLength.cpxExt (a : Addr) : EncodedLength.Statement (.cpxExt a) :=
  ⟨(show instrLength 0xC3 = 3 by decide).symm, of_decide_eq_true rfl, of_decide_eq_true rfl⟩
theorem EncodedLength.cpxIx2 (o : Addr) : EncodedLength.Statement (.cpxIx2 o) :=
  ⟨(show instrLength 0xD3 = 3 by decide).symm, of_decide_eq_true rfl, of_decide_eq_true rfl⟩
theorem EncodedLength.cpxIx1 (o : Byte) : EncodedLength.Statement (.cpxIx1 o) :=
  ⟨(show instrLength 0xE3 = 2 by decide).symm, of_decide_eq_true rfl, of_decide_eq_true rfl⟩
theorem EncodedLength.cpxIx : EncodedLength.Statement (.cpxIx) :=
  ⟨(show instrLength 0xF3 = 1 by decide).symm, of_decide_eq_true rfl, of_decide_eq_true rfl⟩
theorem EncodedLength.andImm (v : Byte) : EncodedLength.Statement (.andImm v) :=
  ⟨(show instrLength 0xA4 = 2 by decide).symm, of_decide_eq_true rfl, of_decide_eq_true rfl⟩
theorem EncodedLength.andDir (d : Byte) : EncodedLength.Statement (.andDir d) :=
  ⟨(show instrLength 0xB4 = 2 by decide).symm, of_decide_eq_true rfl, of_decide_eq_true rfl⟩
theorem EncodedLength.andExt (a : Addr) : EncodedLength.Statement (.andExt a) :=
  ⟨(show instrLength 0xC4 = 3 by decide).symm, of_decide_eq_true rfl, of_decide_eq_true rfl⟩
theorem EncodedLength.andIx2 (o : Addr) : EncodedLength.Statement (.andIx2 o) :=
  ⟨(show instrLength 0xD4 = 3 by decide).symm, of_decide_eq_true rfl, of_decide_eq_true rfl⟩
theorem EncodedLength.andIx1 (o : Byte) : EncodedLength.Statement (.andIx1 o) :=
  ⟨(show instrLength 0xE4 = 2 by decide).symm, of_decide_eq_true rfl, of_decide_eq_true rfl⟩
theorem EncodedLength.andIx : EncodedLength.Statement (.andIx) :=
  ⟨(show instrLength 0xF4 = 1 by decide).symm, of_decide_eq_true rfl, of_decide_eq_true rfl⟩
theorem EncodedLength.bitImm (v : Byte) : EncodedLength.Statement (.bitImm v) :=
  ⟨(show instrLength 0xA5 = 2 by decide).symm, of_decide_eq_true rfl, of_decide_eq_true rfl⟩
theorem EncodedLength.bitDir (d : Byte) : EncodedLength.Statement (.bitDir d) :=
  ⟨(show instrLength 0xB5 = 2 by decide).symm, of_decide_eq_true rfl, of_decide_eq_true rfl⟩
theorem EncodedLength.bitExt (a : Addr) : EncodedLength.Statement (.bitExt a) :=
  ⟨(show instrLength 0xC5 = 3 by decide).symm, of_decide_eq_true rfl, of_decide_eq_true rfl⟩
theorem EncodedLength.bitIx2 (o : Addr) : EncodedLength.Statement (.bitIx2 o) :=
  ⟨(show instrLength 0xD5 = 3 by decide).symm, of_decide_eq_true rfl, of_decide_eq_true rfl⟩
theorem EncodedLength.bitIx1 (o : Byte) : EncodedLength.Statement (.bitIx1 o) :=
  ⟨(show instrLength 0xE5 = 2 by decide).symm, of_decide_eq_true rfl, of_decide_eq_true rfl⟩
theorem EncodedLength.bitIx : EncodedLength.Statement (.bitIx) :=
  ⟨(show instrLength 0xF5 = 1 by decide).symm, of_decide_eq_true rfl, of_decide_eq_true rfl⟩
theorem EncodedLength.ldaImm (v : Byte) : EncodedLength.Statement (.ldaImm v) :=
  ⟨(show instrLength 0xA6 = 2 by decide).symm, of_decide_eq_true rfl, of_decide_eq_true rfl⟩
theorem EncodedLength.ldaDir (d : Byte) : EncodedLength.Statement (.ldaDir d) :=
  ⟨(show instrLength 0xB6 = 2 by decide).symm, of_decide_eq_true rfl, of_decide_eq_true rfl⟩
theorem EncodedLength.ldaExt (a : Addr) : EncodedLength.Statement (.ldaExt a) :=
  ⟨(show instrLength 0xC6 = 3 by decide).symm, of_decide_eq_true rfl, of_decide_eq_true rfl⟩
theorem EncodedLength.ldaIx2 (o : Addr) : EncodedLength.Statement (.ldaIx2 o) :=
  ⟨(show instrLength 0xD6 = 3 by decide).symm, of_decide_eq_true rfl, of_decide_eq_true rfl⟩
theorem EncodedLength.ldaIx1 (o : Byte) : EncodedLength.Statement (.ldaIx1 o) :=
  ⟨(show instrLength 0xE6 = 2 by decide).symm, of_decide_eq_true rfl, of_decide_eq_true rfl⟩
theorem EncodedLength.ldaIx : EncodedLength.Statement (.ldaIx) :=
  ⟨(show instrLength 0xF6 = 1 by decide).symm, of_decide_eq_true rfl, of_decide_eq_true rfl⟩
theorem EncodedLength.staDir (d : Byte) : EncodedLength.Statement (.staDir d) :=
  ⟨(show instrLength 0xB7 = 2 by decide).symm, of_decide_eq_true rfl, of_decide_eq_true rfl⟩
theorem EncodedLength.staExt (a : Addr) : EncodedLength.Statement (.staExt a) :=
  ⟨(show instrLength 0xC7 = 3 by decide).symm, of_decide_eq_true rfl, of_decide_eq_true rfl⟩
theorem EncodedLength.staIx2 (o : Addr) : EncodedLength.Statement (.staIx2 o) :=
  ⟨(show instrLength 0xD7 = 3 by decide).symm, of_decide_eq_true rfl, of_decide_eq_true rfl⟩
theorem EncodedLength.staIx1 (o : Byte) : EncodedLength.Statement (.staIx1 o) :=
  ⟨(show instrLength 0xE7 = 2 by decide).symm, of_decide_eq_true rfl, of_decide_eq_true rfl⟩
theorem EncodedLength.staIx : EncodedLength.Statement (.staIx) :=
  ⟨(show instrLength 0xF7 = 1 by decide).symm, of_decide_eq_true rfl, of_decide_eq_true rfl⟩
theorem EncodedLength.eorImm (v : Byte) : EncodedLength.Statement (.eorImm v) :=
  ⟨(show instrLength 0xA8 = 2 by decide).symm, of_decide_eq_true rfl, of_decide_eq_true rfl⟩
theorem EncodedLength.eorDir (d : Byte) : EncodedLength.Statement (.eorDir d) :=
  ⟨(show instrLength 0xB8 = 2 by decide).symm, of_decide_eq_true rfl, of_decide_eq_true rfl⟩
theorem EncodedLength.eorExt (a : Addr) : EncodedLength.Statement (.eorExt a) :=
  ⟨(show instrLength 0xC8 = 3 by decide).symm, of_decide_eq_true rfl, of_decide_eq_true rfl⟩
theorem EncodedLength.eorIx2 (o : Addr) : EncodedLength.Statement (.eorIx2 o) :=
  ⟨(show instrLength 0xD8 = 3 by decide).symm, of_decide_eq_true rfl, of_decide_eq_true rfl⟩
theorem EncodedLength.eorIx1 (o : Byte) : EncodedLength.Statement (.eorIx1 o) :=
  ⟨(show instrLength 0xE8 = 2 by decide).symm, of_decide_eq_true rfl, of_decide_eq_true rfl⟩
theorem EncodedLength.eorIx : EncodedLength.Statement (.eorIx) :=
  ⟨(show instrLength 0xF8 = 1 by decide).symm, of_decide_eq_true rfl, of_decide_eq_true rfl⟩
theorem EncodedLength.adcImm (v : Byte) : EncodedLength.Statement (.adcImm v) :=
  ⟨(show instrLength 0xA9 = 2 by decide).symm, of_decide_eq_true rfl, of_decide_eq_true rfl⟩
theorem EncodedLength.adcDir (d : Byte) : EncodedLength.Statement (.adcDir d) :=
  ⟨(show instrLength 0xB9 = 2 by decide).symm, of_decide_eq_true rfl, of_decide_eq_true rfl⟩
theorem EncodedLength.adcExt (a : Addr) : EncodedLength.Statement (.adcExt a) :=
  ⟨(show instrLength 0xC9 = 3 by decide).symm, of_decide_eq_true rfl, of_decide_eq_true rfl⟩
theorem EncodedLength.adcIx2 (o : Addr) : EncodedLength.Statement (.adcIx2 o) :=
  ⟨(show instrLength 0xD9 = 3 by decide).symm, of_decide_eq_true rfl, of_decide_eq_true rfl⟩
theorem EncodedLength.adcIx1 (o : Byte) : EncodedLength.Statement (.adcIx1 o) :=
  ⟨(show instrLength 0xE9 = 2 by decide).symm, of_decide_eq_true rfl, of_decide_eq_true rfl⟩
theorem EncodedLength.adcIx : EncodedLength.Statement (.adcIx) :=
  ⟨(show instrLength 0xF9 = 1 by decide).symm, of_decide_eq_true rfl, of_decide_eq_true rfl⟩
theorem EncodedLength.oraImm (v : Byte) : EncodedLength.Statement (.oraImm v) :=
  ⟨(show instrLength 0xAA = 2 by decide).symm, of_decide_eq_true rfl, of_decide_eq_true rfl⟩
theorem EncodedLength.oraDir (d : Byte) : EncodedLength.Statement (.oraDir d) :=
  ⟨(show instrLength 0xBA = 2 by decide).symm, of_decide_eq_true rfl, of_decide_eq_true rfl⟩
theorem EncodedLength.oraExt (a : Addr) : EncodedLength.Statement (.oraExt a) :=
  ⟨(show instrLength 0xCA = 3 by decide).symm, of_decide_eq_true rfl, of_decide_eq_true rfl⟩
theorem EncodedLength.oraIx2 (o : Addr) : EncodedLength.Statement (.oraIx2 o) :=
  ⟨(show instrLength 0xDA = 3 by decide).symm, of_decide_eq_true rfl, of_decide_eq_true rfl⟩
theorem EncodedLength.oraIx1 (o : Byte) : EncodedLength.Statement (.oraIx1 o) :=
  ⟨(show instrLength 0xEA = 2 by decide).symm, of_decide_eq_true rfl, of_decide_eq_true rfl⟩
theorem EncodedLength.oraIx : EncodedLength.Statement (.oraIx) :=
  ⟨(show instrLength 0xFA = 1 by decide).symm, of_decide_eq_true rfl, of_decide_eq_true rfl⟩
theorem EncodedLength.addImm (v : Byte) : EncodedLength.Statement (.addImm v) :=
  ⟨(show instrLength 0xAB = 2 by decide).symm, of_decide_eq_true rfl, of_decide_eq_true rfl⟩
theorem EncodedLength.addDir (d : Byte) : EncodedLength.Statement (.addDir d) :=
  ⟨(show instrLength 0xBB = 2 by decide).symm, of_decide_eq_true rfl, of_decide_eq_true rfl⟩
theorem EncodedLength.addExt (a : Addr) : EncodedLength.Statement (.addExt a) :=
  ⟨(show instrLength 0xCB = 3 by decide).symm, of_decide_eq_true rfl, of_decide_eq_true rfl⟩
theorem EncodedLength.addIx2 (o : Addr) : EncodedLength.Statement (.addIx2 o) :=
  ⟨(show instrLength 0xDB = 3 by decide).symm, of_decide_eq_true rfl, of_decide_eq_true rfl⟩
theorem EncodedLength.addIx1 (o : Byte) : EncodedLength.Statement (.addIx1 o) :=
  ⟨(show instrLength 0xEB = 2 by decide).symm, of_decide_eq_true rfl, of_decide_eq_true rfl⟩
theorem EncodedLength.addIx : EncodedLength.Statement (.addIx) :=
  ⟨(show instrLength 0xFB = 1 by decide).symm, of_decide_eq_true rfl, of_decide_eq_true rfl⟩
theorem EncodedLength.jmpDir (d : Byte) : EncodedLength.Statement (.jmpDir d) :=
  ⟨(show instrLength 0xBC = 2 by decide).symm, of_decide_eq_true rfl, of_decide_eq_true rfl⟩
theorem EncodedLength.jmpExt (a : Addr) : EncodedLength.Statement (.jmpExt a) :=
  ⟨(show instrLength 0xCC = 3 by decide).symm, of_decide_eq_true rfl, of_decide_eq_true rfl⟩
theorem EncodedLength.jmpIx2 (o : Addr) : EncodedLength.Statement (.jmpIx2 o) :=
  ⟨(show instrLength 0xDC = 3 by decide).symm, of_decide_eq_true rfl, of_decide_eq_true rfl⟩
theorem EncodedLength.jmpIx1 (o : Byte) : EncodedLength.Statement (.jmpIx1 o) :=
  ⟨(show instrLength 0xEC = 2 by decide).symm, of_decide_eq_true rfl, of_decide_eq_true rfl⟩
theorem EncodedLength.jmpIx : EncodedLength.Statement (.jmpIx) :=
  ⟨(show instrLength 0xFC = 1 by decide).symm, of_decide_eq_true rfl, of_decide_eq_true rfl⟩
theorem EncodedLength.jsrDir (d : Byte) : EncodedLength.Statement (.jsrDir d) :=
  ⟨(show instrLength 0xBD = 2 by decide).symm, of_decide_eq_true rfl, of_decide_eq_true rfl⟩
theorem EncodedLength.jsrExt (a : Addr) : EncodedLength.Statement (.jsrExt a) :=
  ⟨(show instrLength 0xCD = 3 by decide).symm, of_decide_eq_true rfl, of_decide_eq_true rfl⟩
theorem EncodedLength.jsrIx2 (o : Addr) : EncodedLength.Statement (.jsrIx2 o) :=
  ⟨(show instrLength 0xDD = 3 by decide).symm, of_decide_eq_true rfl, of_decide_eq_true rfl⟩
theorem EncodedLength.jsrIx1 (o : Byte) : EncodedLength.Statement (.jsrIx1 o) :=
  ⟨(show instrLength 0xED = 2 by decide).symm, of_decide_eq_true rfl, of_decide_eq_true rfl⟩
theorem EncodedLength.jsrIx : EncodedLength.Statement (.jsrIx) :=
  ⟨(show instrLength 0xFD = 1 by decide).symm, of_decide_eq_true rfl, of_decide_eq_true rfl⟩
theorem EncodedLength.ldxImm (v : Byte) : EncodedLength.Statement (.ldxImm v) :=
  ⟨(show instrLength 0xAE = 2 by decide).symm, of_decide_eq_true rfl, of_decide_eq_true rfl⟩
theorem EncodedLength.ldxDir (d : Byte) : EncodedLength.Statement (.ldxDir d) :=
  ⟨(show instrLength 0xBE = 2 by decide).symm, of_decide_eq_true rfl, of_decide_eq_true rfl⟩
theorem EncodedLength.ldxExt (a : Addr) : EncodedLength.Statement (.ldxExt a) :=
  ⟨(show instrLength 0xCE = 3 by decide).symm, of_decide_eq_true rfl, of_decide_eq_true rfl⟩
theorem EncodedLength.ldxIx2 (o : Addr) : EncodedLength.Statement (.ldxIx2 o) :=
  ⟨(show instrLength 0xDE = 3 by decide).symm, of_decide_eq_true rfl, of_decide_eq_true rfl⟩
theorem EncodedLength.ldxIx1 (o : Byte) : EncodedLength.Statement (.ldxIx1 o) :=
  ⟨(show instrLength 0xEE = 2 by decide).symm, of_decide_eq_true rfl, of_decide_eq_true rfl⟩
theorem EncodedLength.ldxIx : EncodedLength.Statement (.ldxIx) :=
  ⟨(show instrLength 0xFE = 1 by decide).symm, of_decide_eq_true rfl, of_decide_eq_true rfl⟩
theorem EncodedLength.stxDir (d : Byte) : EncodedLength.Statement (.stxDir d) :=
  ⟨(show instrLength 0xBF = 2 by decide).symm, of_decide_eq_true rfl, of_decide_eq_true rfl⟩
theorem EncodedLength.stxExt (a : Addr) : EncodedLength.Statement (.stxExt a) :=
  ⟨(show instrLength 0xCF = 3 by decide).symm, of_decide_eq_true rfl, of_decide_eq_true rfl⟩
theorem EncodedLength.stxIx2 (o : Addr) : EncodedLength.Statement (.stxIx2 o) :=
  ⟨(show instrLength 0xDF = 3 by decide).symm, of_decide_eq_true rfl, of_decide_eq_true rfl⟩
theorem EncodedLength.stxIx1 (o : Byte) : EncodedLength.Statement (.stxIx1 o) :=
  ⟨(show instrLength 0xEF = 2 by decide).symm, of_decide_eq_true rfl, of_decide_eq_true rfl⟩
theorem EncodedLength.stxIx : EncodedLength.Statement (.stxIx) :=
  ⟨(show instrLength 0xFF = 1 by decide).symm, of_decide_eq_true rfl, of_decide_eq_true rfl⟩

end Sys2Proof.Laws
end

