-- ==== Sys2Proof/Tests/Slice0.lean ====
section
/-! SUPPORT. The model's own tests: words of the opcode map written out from R97 and opcode_table.json, ill-formed terms, single
steps with results from spec/95_test_vectors.md, and for every obligation that has hypotheses a case that meets them. -/

namespace Sys2Proof.Tests

set_option Elab.async false

open Sys2Proof.Machine

/-! ### Decoding -/

/-- High nibble $0 of the opcode map. -/
def wordsBitBranch : List (List Byte × Instr) :=
  [([0x00, 0x09, 0xFD], .brset 0 0x09 0xFD), ([0x02, 0x09, 0xFD], .brset 1 0x09 0xFD),
   ([0x04, 0x09, 0xFD], .brset 2 0x09 0xFD), ([0x06, 0x09, 0xFD], .brset 3 0x09 0xFD),
   ([0x08, 0x09, 0xFD], .brset 4 0x09 0xFD), ([0x0A, 0x09, 0xFD], .brset 5 0x09 0xFD),
   ([0x0C, 0x09, 0xFD], .brset 6 0x09 0xFD), ([0x0E, 0x09, 0xFD], .brset 7 0x09 0xFD),
   ([0x01, 0x09, 0xFD], .brclr 0 0x09 0xFD), ([0x03, 0x09, 0xFD], .brclr 1 0x09 0xFD),
   ([0x05, 0x09, 0xFD], .brclr 2 0x09 0xFD), ([0x07, 0x09, 0xFD], .brclr 3 0x09 0xFD),
   ([0x09, 0x09, 0xFD], .brclr 4 0x09 0xFD), ([0x0B, 0x09, 0xFD], .brclr 5 0x09 0xFD),
   ([0x0D, 0x09, 0xFD], .brclr 6 0x09 0xFD), ([0x0F, 0x09, 0xFD], .brclr 7 0x09 0xFD)]

theorem test_decode_bit_branch : ∀ p ∈ wordsBitBranch, decode .cmos p.1 = .ok p.2 [] := by decide +kernel

/-- High nibble $1 of the opcode map. -/
def wordsBitSet : List (List Byte × Instr) :=
  [([0x10, 0x81], .bset 0 0x81), ([0x12, 0x81], .bset 1 0x81), ([0x14, 0x81], .bset 2 0x81),
   ([0x16, 0x81], .bset 3 0x81), ([0x18, 0x81], .bset 4 0x81), ([0x1A, 0x81], .bset 5 0x81),
   ([0x1C, 0x81], .bset 6 0x81), ([0x1E, 0x81], .bset 7 0x81), ([0x11, 0x81], .bclr 0 0x81),
   ([0x13, 0x81], .bclr 1 0x81), ([0x15, 0x81], .bclr 2 0x81), ([0x17, 0x81], .bclr 3 0x81),
   ([0x19, 0x81], .bclr 4 0x81), ([0x1B, 0x81], .bclr 5 0x81), ([0x1D, 0x81], .bclr 6 0x81),
   ([0x1F, 0x81], .bclr 7 0x81)]

theorem test_decode_bit_set : ∀ p ∈ wordsBitSet, decode .cmos p.1 = .ok p.2 [] := by decide +kernel

/-- High nibble $2 of the opcode map. -/
def wordsBranch : List (List Byte × Instr) :=
  [([0x20, 0xFA], .bra 0xFA), ([0x21, 0xFA], .brn 0xFA), ([0x22, 0xFA], .bhi 0xFA), ([0x23, 0xFA], .bls 0xFA),
   ([0x24, 0xFA], .bcc 0xFA), ([0x25, 0xFA], .bcs 0xFA), ([0x26, 0xFA], .bne 0xFA), ([0x27, 0xFA], .beq 0xFA),
   ([0x28, 0xFA], .bhcc 0xFA), ([0x29, 0xFA], .bhcs 0xFA), ([0x2A, 0xFA], .bpl 0xFA), ([0x2B, 0xFA], .bmi 0xFA),
   ([0x2C, 0xFA], .bmc 0xFA), ([0x2D, 0xFA], .bms 0xFA), ([0x2E, 0xFA], .bil 0xFA), ([0x2F, 0xFA], .bih 0xFA)]

theorem test_decode_branch : ∀ p ∈ wordsBranch, decode .cmos p.1 = .ok p.2 [] := by decide +kernel

/-- High nibble $3 of the opcode map. -/
def wordsRmwDirect : List (List Byte × Instr) :=
  [([0x30, 0x87], .negDir 0x87), ([0x33, 0x87], .comDir 0x87), ([0x34, 0x87], .lsrDir 0x87),
   ([0x36, 0x87], .rorDir 0x87), ([0x37, 0x87], .asrDir 0x87), ([0x38, 0x87], .lslDir 0x87),
   ([0x39, 0x87], .rolDir 0x87), ([0x3A, 0x87], .decDir 0x87), ([0x3C, 0x87], .incDir 0x87),
   ([0x3D, 0x87], .tstDir 0x87), ([0x3F, 0x87], .clrDir 0x87)]

theorem test_decode_rmw_direct : ∀ p ∈ wordsRmwDirect, decode .cmos p.1 = .ok p.2 [] := by decide +kernel

/-- High nibble $4 of the opcode map. -/
def wordsRmwA : List (List Byte × Instr) :=
  [([0x40], .nega), ([0x43], .coma), ([0x44], .lsra), ([0x46], .rora), ([0x47], .asra), ([0x48], .lsla),
   ([0x49], .rola), ([0x4A], .deca), ([0x4C], .inca), ([0x4D], .tsta), ([0x4F], .clra)]

theorem test_decode_rmw_a : ∀ p ∈ wordsRmwA, decode .cmos p.1 = .ok p.2 [] := by decide +kernel

/-- High nibble $5 of the opcode map. -/
def wordsRmwX : List (List Byte × Instr) :=
  [([0x50], .negx), ([0x53], .comx), ([0x54], .lsrx), ([0x56], .rorx), ([0x57], .asrx), ([0x58], .lslx),
   ([0x59], .rolx), ([0x5A], .decx), ([0x5C], .incx), ([0x5D], .tstx), ([0x5F], .clrx)]

theorem test_decode_rmw_x : ∀ p ∈ wordsRmwX, decode .cmos p.1 = .ok p.2 [] := by decide +kernel

/-- High nibble $6 of the opcode map. -/
def wordsRmwOffset : List (List Byte × Instr) :=
  [([0x60, 0xC3], .negIx1 0xC3), ([0x63, 0xC3], .comIx1 0xC3), ([0x64, 0xC3], .lsrIx1 0xC3),
   ([0x66, 0xC3], .rorIx1 0xC3), ([0x67, 0xC3], .asrIx1 0xC3), ([0x68, 0xC3], .lslIx1 0xC3),
   ([0x69, 0xC3], .rolIx1 0xC3), ([0x6A, 0xC3], .decIx1 0xC3), ([0x6C, 0xC3], .incIx1 0xC3),
   ([0x6D, 0xC3], .tstIx1 0xC3), ([0x6F, 0xC3], .clrIx1 0xC3)]

theorem test_decode_rmw_offset : ∀ p ∈ wordsRmwOffset, decode .cmos p.1 = .ok p.2 [] := by decide +kernel

/-- High nibble $7 of the opcode map. -/
def wordsRmwIndexed : List (List Byte × Instr) :=
  [([0x70], .negIx), ([0x73], .comIx), ([0x74], .lsrIx), ([0x76], .rorIx), ([0x77], .asrIx), ([0x78], .lslIx),
   ([0x79], .rolIx), ([0x7A], .decIx), ([0x7C], .incIx), ([0x7D], .tstIx), ([0x7F], .clrIx)]

theorem test_decode_rmw_indexed : ∀ p ∈ wordsRmwIndexed, decode .cmos p.1 = .ok p.2 [] := by decide +kernel

/-- High nibble $8 of the opcode map. -/
def wordsControl : List (List Byte × Instr) :=
  [([0x80], .rti), ([0x81], .rts), ([0x83], .swi), ([0x8E], .stop), ([0x8F], .wait)]

theorem test_decode_control : ∀ p ∈ wordsControl, decode .cmos p.1 = .ok p.2 [] := by decide +kernel

/-- High nibble $9 of the opcode map. -/
def wordsInherent : List (List Byte × Instr) :=
  [([0x97], .tax), ([0x98], .clc), ([0x99], .sec), ([0x9A], .cli), ([0x9B], .sei), ([0x9C], .rsp), ([0x9D], .nop),
   ([0x9F], .txa)]

theorem test_decode_inherent : ∀ p ∈ wordsInherent, decode .cmos p.1 = .ok p.2 [] := by decide +kernel

/-- High nibble $A of the opcode map. -/
def wordsImmediate : List (List Byte × Instr) :=
  [([0xAD, 0xFA], .bsr 0xFA), ([0xA0, 0x5A], .subImm 0x5A), ([0xA1, 0x5A], .cmpImm 0x5A),
   ([0xA2, 0x5A], .sbcImm 0x5A), ([0xA3, 0x5A], .cpxImm 0x5A), ([0xA4, 0x5A], .andImm 0x5A),
   ([0xA5, 0x5A], .bitImm 0x5A), ([0xA6, 0x5A], .ldaImm 0x5A), ([0xA8, 0x5A], .eorImm 0x5A),
   ([0xA9, 0x5A], .adcImm 0x5A), ([0xAA, 0x5A], .oraImm 0x5A), ([0xAB, 0x5A], .addImm 0x5A),
   ([0xAE, 0x5A], .ldxImm 0x5A)]

theorem test_decode_immediate : ∀ p ∈ wordsImmediate, decode .cmos p.1 = .ok p.2 [] := by decide +kernel

/-- High nibble $B of the opcode map. -/
def wordsDirect : List (List Byte × Instr) :=
  [([0xB0, 0x87], .subDir 0x87), ([0xB1, 0x87], .cmpDir 0x87), ([0xB2, 0x87], .sbcDir 0x87),
   ([0xB3, 0x87], .cpxDir 0x87), ([0xB4, 0x87], .andDir 0x87), ([0xB5, 0x87], .bitDir 0x87),
   ([0xB6, 0x87], .ldaDir 0x87), ([0xB7, 0x87], .staDir 0x87), ([0xB8, 0x87], .eorDir 0x87),
   ([0xB9, 0x87], .adcDir 0x87), ([0xBA, 0x87], .oraDir 0x87), ([0xBB, 0x87], .addDir 0x87),
   ([0xBC, 0x87], .jmpDir 0x87), ([0xBD, 0x87], .jsrDir 0x87), ([0xBE, 0x87], .ldxDir 0x87),
   ([0xBF, 0x87], .stxDir 0x87)]

theorem test_decode_direct : ∀ p ∈ wordsDirect, decode .cmos p.1 = .ok p.2 [] := by decide +kernel

/-- High nibble $C of the opcode map. -/
def wordsExtended : List (List Byte × Instr) :=
  [([0xC0, 0x12, 0x8F], .subExt 0x128F), ([0xC1, 0x12, 0x8F], .cmpExt 0x128F), ([0xC2, 0x12, 0x8F], .sbcExt 0x128F),
   ([0xC3, 0x12, 0x8F], .cpxExt 0x128F), ([0xC4, 0x12, 0x8F], .andExt 0x128F), ([0xC5, 0x12, 0x8F], .bitExt 0x128F),
   ([0xC6, 0x12, 0x8F], .ldaExt 0x128F), ([0xC7, 0x12, 0x8F], .staExt 0x128F), ([0xC8, 0x12, 0x8F], .eorExt 0x128F),
   ([0xC9, 0x12, 0x8F], .adcExt 0x128F), ([0xCA, 0x12, 0x8F], .oraExt 0x128F), ([0xCB, 0x12, 0x8F], .addExt 0x128F),
   ([0xCC, 0x12, 0x8F], .jmpExt 0x128F), ([0xCD, 0x12, 0x8F], .jsrExt 0x128F), ([0xCE, 0x12, 0x8F], .ldxExt 0x128F),
   ([0xCF, 0x12, 0x8F], .stxExt 0x128F)]

theorem test_decode_extended : ∀ p ∈ wordsExtended, decode .cmos p.1 = .ok p.2 [] := by decide +kernel

/-- High nibble $D of the opcode map. -/
def wordsOffset16 : List (List Byte × Instr) :=
  [([0xD0, 0x12, 0x8F], .subIx2 0x128F), ([0xD1, 0x12, 0x8F], .cmpIx2 0x128F), ([0xD2, 0x12, 0x8F], .sbcIx2 0x128F),
   ([0xD3, 0x12, 0x8F], .cpxIx2 0x128F), ([0xD4, 0x12, 0x8F], .andIx2 0x128F), ([0xD5, 0x12, 0x8F], .bitIx2 0x128F),
   ([0xD6, 0x12, 0x8F], .ldaIx2 0x128F), ([0xD7, 0x12, 0x8F], .staIx2 0x128F), ([0xD8, 0x12, 0x8F], .eorIx2 0x128F),
   ([0xD9, 0x12, 0x8F], .adcIx2 0x128F), ([0xDA, 0x12, 0x8F], .oraIx2 0x128F), ([0xDB, 0x12, 0x8F], .addIx2 0x128F),
   ([0xDC, 0x12, 0x8F], .jmpIx2 0x128F), ([0xDD, 0x12, 0x8F], .jsrIx2 0x128F), ([0xDE, 0x12, 0x8F], .ldxIx2 0x128F),
   ([0xDF, 0x12, 0x8F], .stxIx2 0x128F)]

theorem test_decode_offset16 : ∀ p ∈ wordsOffset16, decode .cmos p.1 = .ok p.2 [] := by decide +kernel

/-- High nibble $E of the opcode map. -/
def wordsOffset8 : List (List Byte × Instr) :=
  [([0xE0, 0xC3], .subIx1 0xC3), ([0xE1, 0xC3], .cmpIx1 0xC3), ([0xE2, 0xC3], .sbcIx1 0xC3),
   ([0xE3, 0xC3], .cpxIx1 0xC3), ([0xE4, 0xC3], .andIx1 0xC3), ([0xE5, 0xC3], .bitIx1 0xC3),
   ([0xE6, 0xC3], .ldaIx1 0xC3), ([0xE7, 0xC3], .staIx1 0xC3), ([0xE8, 0xC3], .eorIx1 0xC3),
   ([0xE9, 0xC3], .adcIx1 0xC3), ([0xEA, 0xC3], .oraIx1 0xC3), ([0xEB, 0xC3], .addIx1 0xC3),
   ([0xEC, 0xC3], .jmpIx1 0xC3), ([0xED, 0xC3], .jsrIx1 0xC3), ([0xEE, 0xC3], .ldxIx1 0xC3),
   ([0xEF, 0xC3], .stxIx1 0xC3)]

theorem test_decode_offset8 : ∀ p ∈ wordsOffset8, decode .cmos p.1 = .ok p.2 [] := by decide +kernel

/-- High nibble $F of the opcode map. -/
def wordsIndexed : List (List Byte × Instr) :=
  [([0xF0], .subIx), ([0xF1], .cmpIx), ([0xF2], .sbcIx), ([0xF3], .cpxIx), ([0xF4], .andIx), ([0xF5], .bitIx),
   ([0xF6], .ldaIx), ([0xF7], .staIx), ([0xF8], .eorIx), ([0xF9], .adcIx), ([0xFA], .oraIx), ([0xFB], .addIx),
   ([0xFC], .jmpIx), ([0xFD], .jsrIx), ([0xFE], .ldxIx), ([0xFF], .stxIx)]

theorem test_decode_indexed : ∀ p ∈ wordsIndexed, decode .cmos p.1 = .ok p.2 [] := by decide +kernel

/-- The seven rows that are second names: their words decode to the primary name (R102). -/
def wordsSecondName : List (List Byte × Instr) :=
  [([0x24, 0xFA], .bhs 0xFA), ([0x25, 0xFA], .blo 0xFA), ([0x38, 0x87], .aslDir 0x87), ([0x48], .asla),
   ([0x58], .aslx), ([0x68, 0xC3], .aslIx1 0xC3), ([0x78], .aslIx)]

theorem test_decode_second_name : ∀ p ∈ wordsSecondName, decode .cmos p.1 = .ok p.2.primary [] := by decide +kernel

theorem test_encode_second_name : ∀ p ∈ wordsSecondName, encode p.2 = p.1 := by decide +kernel

theorem test_decode_undefined :
    decode .cmos [0x31, 0x50] = .rejected (.undefinedOpcode 0x31) ∧
      decode .cmos [0xA7, 0x00] = .rejected (.undefinedOpcode 0xA7) ∧
      decode .hmos [0x8E] = .rejected (.undefinedOpcode 0x8E) ∧
      decode .hmos [0x8F] = .rejected (.undefinedOpcode 0x8F) := by
  decide +kernel

theorem test_decode_truncated :
    decode .cmos [] = .rejected .truncated ∧ decode .cmos [0xC6, 0x12] = .rejected .truncated := by decide +kernel

theorem test_table_word_keeps_byte_order : decodeTableWord 24 0xC6128F = some (.ldaExt 0x128F) := by decide +kernel

theorem test_table_word_without_operand_bits : decodeTableWord 8 0xC6 = some (.ldaExt 0) := by decide +kernel

/-! ### Well-formedness: an ill-formed term for each check -/

theorem test_stop_is_ill_formed_on_hmos : ¬Instr.stop.WellFormed .hmos := by decide

theorem test_wait_is_ill_formed_on_hmos : ¬Instr.wait.WellFormed .hmos := by decide

theorem test_second_name_is_ill_formed : ¬(Instr.bhs 0x05).WellFormed .cmos := by decide

theorem test_stop_is_well_formed_on_cmos : Instr.stop.WellFormed .cmos := by decide

/-! ### Single steps (spec/95_test_vectors.md) -/

/-- The reference member at $0100 with some code there, A, X and a condition code byte. -/
def start (code : List Byte) (a x cc : Byte) : State :=
  placeBytes 0x100 code { State.reset with pc := 0x100, a := a, x := x, cc := ccOfByte cc }

/-- The state with one byte of memory set. -/
def withByte (addr : Nat) (v : Byte) (s : State) : State := s.setMem (s.mem.write addr v)

/-- A, X, the condition code byte and the PC after one step. -/
def seen (s : State) : Option (Byte × Byte × Byte × Addr) :=
  match step s with
  | .next t => some (t.a, t.x, ccByte t.cc, t.pc)
  | .fault _ => none
  | .refused _ => none

/-- The bytes at some addresses and SP after one step. -/
def seenMemory (s : State) (addrs : List Nat) : Option (List Byte × Addr) :=
  match step s with
  | .next t => some (addrs.map t.mem.read, t.sp)
  | .fault _ => none
  | .refused _ => none

/-- Section 2.1. -/
theorem test_adc_carries_in_and_out :
    seen (start [0xA9, 0x00] 0xFF 0x00 0xE1) =
      some (0x00, 0x00, 0xF3, 0x102) := by decide +kernel

/-- Section 2.1. -/
theorem test_add_sets_half_carry :
    seen (start [0xAB, 0x01] 0x7F 0x00 0xE0) =
      some (0x80, 0x00, 0xF4, 0x102) := by decide +kernel

/-- Section 2.1. -/
theorem test_sub_borrows :
    seen (start [0xA0, 0x01] 0x00 0x00 0xE0) =
      some (0xFF, 0x00, 0xE5, 0x102) := by decide +kernel

/-- Section 2.1. -/
theorem test_sbc_carry_is_three_operand :
    seen (start [0xA2, 0xFF] 0x00 0x00 0xE1) =
      some (0x00, 0x00, 0xE3, 0x102) := by decide +kernel

/-- Section 2.1. -/
theorem test_cmp_is_unsigned :
    seen (start [0xA1, 0x01] 0x00 0x00 0xE0) =
      some (0x00, 0x00, 0xE5, 0x102) := by decide +kernel

/-- Section 2.1. -/
theorem test_cpx_compares_x :
    seen (withByte 0x20 0x21 (start [0xF3] 0x00 0x20 0xE0)) =
      some (0x00, 0x20, 0xE5, 0x101) := by decide +kernel

/-- Section 2.1. -/
theorem test_and_keeps_h_and_c :
    seen (start [0xA4, 0x0F] 0xA5 0x00 0xF1) =
      some (0x05, 0x00, 0xF1, 0x102) := by decide +kernel

/-- Section 2.1. -/
theorem test_bit_keeps_a :
    seen (withByte 0x09 0x7F (start [0xB5, 0x09] 0x80 0x00 0xE0)) =
      some (0x80, 0x00, 0xE2, 0x102) := by decide +kernel

/-- Section 2.1. -/
theorem test_eor :
    seen (start [0xA8, 0xFF] 0x0F 0x00 0xE0) =
      some (0xF0, 0x00, 0xE4, 0x102) := by decide +kernel

/-- Section 2.1. -/
theorem test_ora :
    seen (start [0xAA, 0x80] 0x01 0x00 0xE0) =
      some (0x81, 0x00, 0xE4, 0x102) := by decide +kernel

/-- Section 2.1. -/
theorem test_lda_offset8_is_not_reduced :
    seen (withByte 0xFE 0x11 (withByte 0x1FE 0xA5 (start [0xE6, 0xFF] 0x00 0xFF 0xE0))) =
      some (0xA5, 0xFF, 0xE4, 0x102) := by decide +kernel

/-- Section 2.1. -/
theorem test_lda_offset16_wraps :
    seen (withByte 0x01 0x42 (start [0xD6, 0x1F, 0xFF] 0x00 0x02 0xE0)) =
      some (0x42, 0x02, 0xE0, 0x103) := by decide +kernel

/-- Section 2.1. -/
theorem test_ldx_uses_old_x :
    seen (withByte 0x15 0xF0 (start [0xEE, 0x10] 0x00 0x05 0xE0)) =
      some (0x00, 0xF0, 0xE4, 0x102) := by decide +kernel

/-- Section 2.1. -/
theorem test_sta_offset16 :
    seenMemory (start [0xD7, 0x01, 0x00] 0x12 0xFF 0xE0) [0x1FF] =
      some ([0x12], 0x7F) := by decide +kernel

/-- Section 2.1. -/
theorem test_stx_indexed :
    seenMemory (start [0xFF] 0x00 0x7E 0xE0) [0x7E] =
      some ([0x7E], 0x7F) := by decide +kernel

/-- Section 2.1. -/
theorem test_jmp_offset8 :
    seen (start [0xEC, 0x10] 0x00 0xF8 0xE0) =
      some (0x00, 0xF8, 0xE0, 0x108) := by decide +kernel

/-- Section 2.1, row JSR $1200, at $0100. -/
theorem test_jsr_stacks_low_byte_first :
    seenMemory (start [0xCD, 0x12, 0x00] 0x00 0x00 0xE0) [0x7F, 0x7E] =
      some ([0x03, 0x01], 0x7D) := by decide +kernel

/-- Section 2.2. -/
theorem test_negx :
    seen (start [0x50] 0x00 0x01 0xE0) =
      some (0x00, 0xFF, 0xE5, 0x101) := by decide +kernel

/-- Section 2.2. -/
theorem test_comx_sets_c :
    seen (start [0x53] 0x00 0x00 0xE0) =
      some (0x00, 0xFF, 0xE5, 0x101) := by decide +kernel

/-- Section 2.2. -/
theorem test_lsra_clears_n :
    seen (start [0x44] 0xFF 0x00 0xE4) =
      some (0x7F, 0x00, 0xE1, 0x101) := by decide +kernel

/-- Section 2.2. -/
theorem test_rora_takes_c :
    seen (start [0x46] 0x01 0x00 0xE1) =
      some (0x80, 0x00, 0xE5, 0x101) := by decide +kernel

/-- Section 2.2. -/
theorem test_asra_holds_bit_7 :
    seen (start [0x47] 0x80 0x00 0xE0) =
      some (0xC0, 0x00, 0xE4, 0x101) := by decide +kernel

/-- Section 2.2. -/
theorem test_asl_offset8 :
    seenMemory (withByte 0x12 0xC0 (start [0x68, 0x10] 0x00 0x02 0xE0)) [0x12] =
      some ([0x80], 0x7F) := by decide +kernel

/-- Section 2.2. -/
theorem test_rola_takes_c :
    seen (start [0x49] 0x80 0x00 0xE1) =
      some (0x01, 0x00, 0xE1, 0x101) := by decide +kernel

/-- Section 2.2. -/
theorem test_dec_reaches_01FE :
    seenMemory (withByte 0x1FE 0x01 (start [0x6A, 0xFF] 0x00 0xFF 0xE0)) [0x1FE] =
      some ([0x00], 0x7F) := by decide +kernel

/-- Section 2.2. -/
theorem test_inc_keeps_c :
    seen (withByte 0x50 0xFF (start [0x3C, 0x50] 0x00 0x00 0xE1)) =
      some (0x00, 0x00, 0xE3, 0x102) := by decide +kernel

/-- Section 2.2. -/
theorem test_tst_direct :
    seen (withByte 0x09 0x80 (start [0x3D, 0x09] 0x00 0x00 0xE0)) =
      some (0x00, 0x00, 0xE4, 0x102) := by decide +kernel

/-- Section 2.2. -/
theorem test_clr_indexed :
    seenMemory (withByte 0x45 0xAA (start [0x7F] 0x00 0x45 0xE0)) [0x45] =
      some ([0x00], 0x7F) := by decide +kernel

/-- Section 2.3, at $0100. -/
theorem test_bra_furthest_back :
    seen (start [0x20, 0x80] 0x00 0x00 0xE0) =
      some (0x00, 0x00, 0xE0, 0x082) := by decide +kernel

/-- Section 2.3, at $0100. -/
theorem test_brn_goes_on :
    seen (start [0x21, 0x10] 0x00 0x00 0xE0) =
      some (0x00, 0x00, 0xE0, 0x102) := by decide +kernel

/-- Section 2.3, at $0100. -/
theorem test_bhi_needs_both_clear :
    seen (start [0x22, 0x05] 0x00 0x00 0xE2) =
      some (0x00, 0x00, 0xE2, 0x102) := by decide +kernel

/-- Section 2.3, at $0100. -/
theorem test_bls_needs_one_set :
    seen (start [0x23, 0x05] 0x00 0x00 0xE1) =
      some (0x00, 0x00, 0xE1, 0x107) := by decide +kernel

/-- Section 2.3, at $0100. -/
theorem test_bcc_not_taken :
    seen (start [0x24, 0x05] 0x00 0x00 0xE1) =
      some (0x00, 0x00, 0xE1, 0x102) := by decide +kernel

/-- Section 2.3, at $0100. -/
theorem test_bcs_taken :
    seen (start [0x25, 0x05] 0x00 0x00 0xE1) =
      some (0x00, 0x00, 0xE1, 0x107) := by decide +kernel

/-- Section 2.3, at $0100. -/
theorem test_bne_not_taken :
    seen (start [0x26, 0x05] 0x00 0x00 0xE2) =
      some (0x00, 0x00, 0xE2, 0x102) := by decide +kernel

/-- Section 2.3, at $0100. -/
theorem test_beq_taken :
    seen (start [0x27, 0x05] 0x00 0x00 0xE2) =
      some (0x00, 0x00, 0xE2, 0x107) := by decide +kernel

/-- Section 2.3, at $0100. -/
theorem test_bhcc_not_taken :
    seen (start [0x28, 0x05] 0x00 0x00 0xF0) =
      some (0x00, 0x00, 0xF0, 0x102) := by decide +kernel

/-- Section 2.3, at $0100. -/
theorem test_bhcs_taken :
    seen (start [0x29, 0x05] 0x00 0x00 0xF0) =
      some (0x00, 0x00, 0xF0, 0x107) := by decide +kernel

/-- Section 2.3, at $0100. -/
theorem test_bpl_not_taken :
    seen (start [0x2A, 0x05] 0x00 0x00 0xE4) =
      some (0x00, 0x00, 0xE4, 0x102) := by decide +kernel

/-- Section 2.3, at $0100. -/
theorem test_bmi_taken :
    seen (start [0x2B, 0x05] 0x00 0x00 0xE4) =
      some (0x00, 0x00, 0xE4, 0x107) := by decide +kernel

/-- Section 2.3, at $0100. -/
theorem test_bmc_not_taken :
    seen (start [0x2C, 0x05] 0x00 0x00 0xE8) =
      some (0x00, 0x00, 0xE8, 0x102) := by decide +kernel

/-- Section 2.3, at $0100. -/
theorem test_bms_taken :
    seen (start [0x2D, 0x05] 0x00 0x00 0xE8) =
      some (0x00, 0x00, 0xE8, 0x107) := by decide +kernel

/-- Section 2.3, at $0100. -/
theorem test_bil_with_pin_high :
    seen (start [0x2E, 0x05] 0x00 0x00 0xE0) =
      some (0x00, 0x00, 0xE0, 0x102) := by decide +kernel

/-- Section 2.3, at $0100. -/
theorem test_bih_with_pin_high :
    seen (start [0x2F, 0x05] 0x00 0x00 0xE0) =
      some (0x00, 0x00, 0xE0, 0x107) := by decide +kernel

/-- Section 2.3, row BSR at $0500, at $0100. -/
theorem test_bsr_stacks :
    seenMemory (start [0xAD, 0x20] 0x00 0x00 0xE0) [0x7F, 0x7E] =
      some ([0x02, 0x01], 0x7D) := by decide +kernel

/-- Section 2.4. -/
theorem test_bset :
    seenMemory (start [0x10, 0x20] 0x00 0x00 0xE0) [0x20] =
      some ([0x01], 0x7F) := by decide +kernel

/-- Section 2.4. -/
theorem test_bclr :
    seenMemory (withByte 0x20 0xFF (start [0x1F, 0x20] 0x00 0x00 0xE0)) [0x20] =
      some ([0x7F], 0x7F) := by decide +kernel

/-- Section 2.4. -/
theorem test_brset_not_taken :
    seen (withByte 0x20 0xF7 (start [0x06, 0x20, 0x10] 0x00 0x00 0xE1)) =
      some (0x00, 0x00, 0xE0, 0x103) := by decide +kernel

/-- Section 2.4, at $0100. -/
theorem test_brclr_taken_back :
    seen (withByte 0x20 0xFE (start [0x01, 0x20, 0x80] 0x00 0x00 0xE1)) =
      some (0x00, 0x00, 0xE0, 0x083) := by decide +kernel

/-- Section 2.5. -/
theorem test_clc :
    seen (start [0x98] 0x00 0x00 0xFF) =
      some (0x00, 0x00, 0xFE, 0x101) := by decide +kernel

/-- Section 2.5. -/
theorem test_sec :
    seen (start [0x99] 0x00 0x00 0xE0) =
      some (0x00, 0x00, 0xE1, 0x101) := by decide +kernel

/-- Section 2.5. -/
theorem test_cli :
    seen (start [0x9A] 0x00 0x00 0xE8) =
      some (0x00, 0x00, 0xE0, 0x101) := by decide +kernel

/-- Section 2.5. -/
theorem test_sei :
    seen (start [0x9B] 0x00 0x00 0xE0) =
      some (0x00, 0x00, 0xE8, 0x101) := by decide +kernel

/-- Section 2.5. -/
theorem test_nop :
    seen (start [0x9D] 0x01 0x02 0xE1) =
      some (0x01, 0x02, 0xE1, 0x101) := by decide +kernel

/-- Section 2.5. -/
theorem test_tax_keeps_flags :
    seen (start [0x97] 0x80 0x01 0xE0) =
      some (0x80, 0x80, 0xE0, 0x101) := by decide +kernel

/-- Section 2.5. -/
theorem test_txa_keeps_flags :
    seen (start [0x9F] 0x55 0x00 0xE4) =
      some (0x00, 0x00, 0xE4, 0x101) := by decide +kernel

/-- Section 2.5. -/
theorem test_rsp : seenMemory ((start [0x9C] 0x00 0x00 0xE0).setSp 0x75) [] = some ([], 0x7F) := by decide +kernel

/-- Section 2.5: a pull wraps from the top of the stack to its bottom. -/
theorem test_rts_wraps :
    seen (withByte 0x40 0x01 (withByte 0x41 0x23 (start [0x81] 0x00 0x00 0xE0))) = some (0x00, 0x00, 0xE0, 0x123) := by
  decide +kernel

/-- Section 2.5: bits 7 to 5 of the CC byte are ignored, the PC is reduced to 13 bits. -/
theorem test_rti :
    seen ((placeBytes 0x7B [0x1F, 0x11, 0x22, 0xE5, 0xC0] (start [0x80] 0x00 0x00 0xE0)).setSp 0x7A) =
      some (0x11, 0x22, 0xFF, 0x5C0) := by decide +kernel

/-- Section 2.5, row SWI at $1234, at $0100. -/
theorem test_swi_frame :
    seenMemory (start [0x83] 0x01 0x02 0xEA) [0x7F, 0x7E, 0x7D, 0x7C, 0x7B] =
      some ([0x01, 0x01, 0x02, 0x01, 0xEA], 0x7A) := by decide +kernel

/-- Section 2.5: the vector, and I set though it was set already. -/
theorem test_swi_vector :
    seen (withByte 0x1FFC 0x1E (start [0x83] 0x01 0x02 0xEA)) = some (0x01, 0x02, 0xEA, 0x1E00) := by decide +kernel

/-- The run state, I and the timer request after one step. -/
def seenPower (s : State) : Option (RunState × Bool × Bool) :=
  match step s with
  | .next t => some (t.runState, t.cc.i, pendTimer t)
  | .fault _ => none
  | .refused _ => none

/-- A timer device that presents a request. -/
def requesting : Timer := { prescaler := 3, counter := 4, flag := true, enable := true }

/-- Section 2.5. -/
theorem test_stop :
    seenPower ((start [0x8E] 0x00 0x00 0xE8).setTimer requesting) = some (.stopped, false, false) := by decide +kernel

/-- Section 2.5. -/
theorem test_wait : seenPower (start [0x8F] 0x00 0x00 0xE8) = some (.waiting, false, false) := by decide +kernel

/-- An HMOS member with 11 address bits and 5 counting bits, as in the HMOS rows of section 2. -/
def hmos11 : Config :=
  { family := .hmos, addrBits := 11, spBits := 5, vecReset := 0x7FE, vecIrq := 0x7FA, vecTimer := 0x7F8, memMap := [] }

/-- The same start on that member. -/
def startHmos (code : List Byte) (a x cc : Byte) : State :=
  placeBytes 0x100 code { State.reset with cfg := hmos11, pc := 0x100, a := a, x := x, cc := ccOfByte cc }

/-- Section 2.5: STOP is an undefined opcode on HMOS. -/
theorem test_stop_on_hmos : step (startHmos [0x8E] 0x00 0x00 0xE0) = .fault (.undefinedOpcode 0x8E) := by rfl

/-- Section 2.5, row SWI on HMOS, at $0100: ones above the PC in the stacked PCH. -/
theorem test_swi_frame_hmos :
    seenMemory (startHmos [0x83] 0xAA 0x55 0xE5) [0x7F, 0x7E, 0x7D, 0x7C, 0x7B] =
      some ([0x01, 0xF9, 0x55, 0xAA, 0xE5], 0x7A) := by decide +kernel

/-- Section 2.3, row BSR on HMOS, at $0100. -/
theorem test_bsr_hmos : seenMemory (startHmos [0xAD, 0xFA] 0x00 0x00 0xE0) [0x7F, 0x7E] = some ([0x02, 0xF9], 0x7D) := by
  decide +kernel

/-- Section 2.4: a write-only register reads $FF, so BSET writes $FF. -/
theorem test_bset_write_only :
    seenMemory { start [0x12, 0x04] 0x00 0x00 0xE0 with
      cfg := { Config.reference with memMap := [{ base := 0, size := 8, kind := .writeOnly }] } } [0x04] =
      some ([0xFF], 0x7F) := by decide +kernel

/-! ### Interrupts, inputs, reset (section 2.6) -/

/-- A boundary with nothing from outside. -/
def noInput : Input := { reset := false, intPin := true, pulse := false, timer := none }

/-- The external vector of the reference member holds $1010. -/
def withVector (s : State) : State := placeBytes 0x1FFA [0x10, 0x10] s

/-- Section 2.6, first row, at $0100. -/
theorem test_external_entry :
    (interruptEntry .ext ((withVector (start [] 0x12 0x34 0xE2)).setPendExt true)).pc = 0x1010 ∧
      (interruptEntry .ext ((withVector (start [] 0x12 0x34 0xE2)).setPendExt true)).pendExt = false := by decide +kernel

/-- Section 2.6: a masked request stays latched and the instruction runs. -/
theorem test_masked_request_waits : chooseEvent false ((start [0x9D] 0x00 0x00 0xE8).setPendExt true) = .instruction := by
  decide +kernel

/-- Section 2.6: the external request goes first. -/
theorem test_external_before_timer :
    chooseEvent false (((start [] 0x00 0x00 0xE0).setPendExt true).setTimer requesting) = .interrupt .ext := by decide +kernel

/-- Section 2.6: a falling edge latches, whatever I is. -/
theorem test_falling_edge_latches :
    (sampleInputs ((start [] 0x00 0x00 0xE8).setInputs [{ noInput with intPin := false }])).pendExt = true := by
  decide +kernel

/-- Section 2.6: the timer cannot request while STOPPED. -/
theorem test_stopped_timer_is_still :
    pendTimer (sampleInputs (((start [] 0x00 0x00 0xE0).setRunState .stopped).setInputs
      [{ noInput with timer := some requesting }])) = false := by decide +kernel

/-- Section 2.6, row reset. -/
theorem test_reset :
    (takeReset ((withByte 0x1FFE 0x08 (start [] 0x12 0x34 0xE0)).setSp 0x55)).pc = 0x800 ∧
      (takeReset ((start [] 0x12 0x34 0xE0).setSp 0x55)).sp = 0x7F ∧
      (takeReset (start [] 0x12 0x34 0xE0)).a = 0x12 := by decide +kernel

/-- Taking a reset in the state after reset moves nothing but the timer's counts and the count of draws (R341). -/
theorem test_reset_state_is_reset :
    ((takeReset State.reset).setTimer State.reset.timer).setDraws State.reset.draws = State.reset := by rfl

/-- A table word placed where the step fetches runs as its instruction. -/
theorem test_with_fetch_word : seen (State.reset.withFetchWord 16 0xA65A) = some (0x5A, 0x00, 0xE8, 0x002) := by
  decide +kernel

/-- The memory after reset has its canonical form. -/
theorem test_reset_memory : State.reset.mem.wf := by decide
/-! ### Witnesses: for every obligation with hypotheses, a case that meets them -/

theorem witness_DecodeOfEncode :
    Instr.stop.WellFormed .cmos ∧ (Instr.brset 7 0xFF 0x80).WellFormed .hmos ∧ (Instr.ldaExt 0xFFFF).WellFormed .cmos := by
  decide

theorem witness_EncodeOfDecode : decode .hmos [0xAD, 0x80, 0x31] = .ok (.bsr 0x80) [0x31] := by decide +kernel

/-- The second clause, on both families. -/
theorem witness_UndefinedOpcodesHaveNoInstruction :
    (Quiet (start [0x31] 0x00 0x00 0xE8) ∧ readByte (start [0x31] 0x00 0x00 0xE8) 0x100 ∈ undefinedOpcodes .cmos) ∧
      (Quiet (startHmos [0x8F] 0x00 0x00 0xE0) ∧
        readByte (startHmos [0x8F] 0x00 0x00 0xE0) 0x100 ∈ undefinedOpcodes .hmos) := by
  refine ⟨⟨⟨rfl, rfl, .inl rfl⟩, ?_⟩, ⟨rfl, rfl, .inr ⟨rfl, rfl⟩⟩, ?_⟩ <;> decide +kernel

theorem witness_OpcodeDecidesLength :
    decode .cmos [0x80] = .ok .rti [] ∧ decode .cmos [0xDF, 0xFF, 0xFF, 0x00] = .ok (.stxIx2 0xFFFF) [0x00] := by
  decide +kernel

theorem witness_StepRunsDecodedInstruction :
    chooseEvent (resetAsserted (start [0xA6, 0x5A] 0x00 0x00 0xE0)) (sampleInputs (start [0xA6, 0x5A] 0x00 0x00 0xE0)) =
        .instruction ∧
      fetchInstr (sampleInputs (start [0xA6, 0x5A] 0x00 0x00 0xE0)) =
        (.ok (.ldaImm 0x5A) [], (start [0xA6, 0x5A] 0x00 0x00 0xE0).setPc 0x102) := by
  constructor <;> decide +kernel

/-- A three-byte instruction that wraps round the top of the address space. -/
theorem witness_StepRunsEncodedInstruction :
    ((placeBytes 0x1FFE [0xCE, 0x08, 0x00] State.reset).setPc 0x1FFE).cfg.wf ∧
      Quiet ((placeBytes 0x1FFE [0xCE, 0x08, 0x00] State.reset).setPc 0x1FFE) ∧ (Instr.ldxExt 0x0800).WellFormed .cmos ∧
      CodeAt ((placeBytes 0x1FFE [0xCE, 0x08, 0x00] State.reset).setPc 0x1FFE) 0x1FFE (encode (.ldxExt 0x0800)) := by
  refine ⟨by decide, ⟨rfl, rfl, .inl rfl⟩, by decide, ?_⟩
  exact ⟨.inl rfl, rfl, .inl rfl, rfl, .inl rfl, rfl, trivial⟩

/-- One state for each clause. -/
theorem witness_BoundaryEvents :
    resetAsserted (State.reset.setInputs [{ noInput with reset := true }]) = true ∧
      (resetAsserted State.reset = false ∧ State.reset.cc.i = true ∧ State.reset.runState = .running) ∧
      ((start [] 0x00 0x00 0xE0).cc.i = false ∧ ((start [] 0x00 0x00 0xE0).setPendExt true).pendExt = true) ∧
      ((start [] 0x00 0x00 0xE0).pendExt = false ∧ pendTimer ((start [] 0x00 0x00 0xE0).setTimer requesting) = true) ∧
      ((start [] 0x00 0x00 0xE0).pendExt = false ∧ pendTimer (start [] 0x00 0x00 0xE0) = false ∧
        ((start [] 0x00 0x00 0xE0).setRunState .waiting).runState ≠ .running) := by
  decide +kernel

/-- Members at both ends of the ranges of R6. -/
theorem witness_wellFormed_members :
    Config.reference.wf ∧ { Config.reference with addrBits := 11, spBits := 1 }.wf ∧
      { Config.reference with addrBits := 16, spBits := 7 }.wf := by decide

theorem witness_PageZeroAddresses : State.reset.cfg.wf := by decide

theorem witness_SixteenBitAddresses : (startHmos [] 0x00 0xFF 0xE0).cfg.wf := by decide

theorem witness_RelativeTargets : (start [] 0x00 0x00 0xE0).cfg.wf := by decide

theorem witness_StoreInstructions : kindAt (start [] 0x00 0xFF 0xE0) (ea (.ix2 0xFFFF) (start [] 0x00 0xFF 0xE0)) = .ram := by
  decide +kernel

/-- With no region in the map every location is RAM. -/
theorem stackIsRam_of_no_region {s : State} (h : s.cfg.memMap = []) : StackIsRam s := by
  intro addr _ _
  simp [kindAt, kindIn, h]

theorem reset_inv : Inv State.reset := by constructor <;> decide

/-- A state in the middle of a program, SP at the bottom of the stack area. -/
def middle : State := (start [0x83] 0x12 0x34 0xE5).setSp 0x40

theorem middle_inv : Inv middle := by constructor <;> decide +kernel

theorem middle_stack : StackIsRam middle := stackIsRam_of_no_region rfl

theorem hmos_inv : Inv (startHmos [0x83] 0xAA 0x55 0xE5) := by constructor <;> decide +kernel

theorem hmos_stack : StackIsRam (startHmos [0x83] 0xAA 0x55 0xE5) := stackIsRam_of_no_region rfl

theorem witness_CallInstructions : Inv middle ∧ StackIsRam middle := ⟨middle_inv, middle_stack⟩

/-- For each condition a state where it holds and one where it does not. -/
theorem witness_CarryAndZeroBranches :
    ((ccOfByte 0xE0).c = false ∧ (ccOfByte 0xE0).z = false) ∧ ((ccOfByte 0xE1).c = true) ∧ ((ccOfByte 0xE2).z = true) := by
  decide

theorem witness_OtherBranches :
    (ccOfByte 0xE0).h = false ∧ (ccOfByte 0xF0).h = true ∧ (ccOfByte 0xE0).n = false ∧ (ccOfByte 0xE4).n = true ∧
      (ccOfByte 0xE0).i = false ∧ (ccOfByte 0xE8).i = true ∧ State.reset.intPin = true ∧
      (State.reset.setIntPin false).intPin = false := by decide

theorem witness_BitSetInstruction : kindAt State.reset (ea (.dir 0xFF) State.reset) = .ram := by decide

theorem witness_BitClearInstruction : kindAt State.reset (ea (.dir 0x00) State.reset) = .ram := by decide

/-- Both clauses, at the lowest and at the highest bit. -/
theorem witness_BitTestBranches :
    (readByte (withByte 0x20 0x81 State.reset) (ea (.dir 0x20) State.reset)).getLsbD (0 : BitVec 3).toNat = true ∧
      (readByte (withByte 0x20 0x81 State.reset) (ea (.dir 0x20) State.reset)).getLsbD (7 : BitVec 3).toNat = true ∧
      (readByte (withByte 0x20 0x7E State.reset) (ea (.dir 0x20) State.reset)).getLsbD (0 : BitVec 3).toNat = false ∧
      (readByte (withByte 0x20 0x7E State.reset) (ea (.dir 0x20) State.reset)).getLsbD (7 : BitVec 3).toNat = false := by
  decide +kernel

theorem witness_SetMaskInstruction : State.reset.cc.i = true := rfl

/-- Both clauses on requests. -/
theorem witness_ClearMaskInstruction :
    (exec .cli (State.reset.setPendExt true) =
        .next ((State.reset.setPendExt true).setCc { State.reset.cc with i := false }) ∧
      (State.reset.setPendExt true).pendExt = true) ∧
    (exec .cli (State.reset.setTimer requesting) =
        .next ((State.reset.setTimer requesting).setCc { State.reset.cc with i := false }) ∧
      (State.reset.setTimer requesting).pendExt = false ∧ pendTimer (State.reset.setTimer requesting) = true) :=
  ⟨⟨rfl, rfl⟩, rfl, rfl, rfl⟩

/-- SP at the bottom, so that the second pull is at the next address, and at the top, so that the first one wraps. -/
theorem witness_ReturnFromSubroutineInstruction : (Inv middle ∧ StackIsRam middle) ∧ Inv State.reset ∧ StackIsRam State.reset :=
  ⟨⟨middle_inv, middle_stack⟩, reset_inv, stackIsRam_of_no_region rfl⟩

theorem witness_ReturnFromInterruptInstruction :
    Inv (startHmos [0x83] 0xAA 0x55 0xE5) ∧ StackIsRam (startHmos [0x83] 0xAA 0x55 0xE5) := ⟨hmos_inv, hmos_stack⟩

/-- The clauses on requests: the stacked I is clear, and the external or the timer request is present. -/
theorem witness_ReturnFromInterruptInstruction_requests :
    (pull State.reset).1.getLsbD 3 = false ∧
      (exec .rti (State.reset.setPendExt true) = .next (returnFromException (State.reset.setPendExt true)) ∧
        (pull (State.reset.setPendExt true)).1.getLsbD 3 = false) ∧
      (exec .rti (State.reset.setTimer requesting) = .next (returnFromException (State.reset.setTimer requesting)) ∧
        (pull (State.reset.setTimer requesting)).1.getLsbD 3 = false ∧
        (State.reset.setTimer requesting).pendExt = false ∧ pendTimer (State.reset.setTimer requesting) = true) := by
  refine ⟨?_, ⟨rfl, ?_⟩, rfl, ?_, ?_, ?_⟩ <;> decide +kernel

/-- The frame wraps round the bottom of the stack area. -/
theorem witness_SoftwareInterruptInstruction :
    Inv middle ∧ 3 ≤ middle.cfg.spBits ∧ StackIsRam middle ∧ VectorIsMemory middle (vecSwi middle.cfg) ∧ middle.cfg.wf :=
  ⟨middle_inv, by decide, middle_stack, ⟨.inl rfl, .inl rfl⟩, by decide⟩

/-- The state a handler leaves: registers of its own and a byte it stored, the frame as the interrupt left it. -/
def handled (t : State) : State := memWrite (((t.setA 0x99).setX 0x77).setPc 0x0780) 0x0100 0x5A

theorem witness_RtiUndoesSwi :
    Inv middle ∧ 3 ≤ middle.cfg.spBits ∧ StackIsRam middle ∧
      exec .swi middle = .next (takeException (vecSwi middle.cfg) middle) ∧
      (handled (takeException (vecSwi middle.cfg) middle)).cfg = (takeException (vecSwi middle.cfg) middle).cfg ∧
      (handled (takeException (vecSwi middle.cfg) middle)).sp = (takeException (vecSwi middle.cfg) middle).sp ∧
      (handled (takeException (vecSwi middle.cfg) middle)).mem ≠ (takeException (vecSwi middle.cfg) middle).mem ∧
      (∀ k : Nat, k < 5 → content (handled (takeException (vecSwi middle.cfg) middle)) (spBelow middle.cfg k middle.sp) =
        content (takeException (vecSwi middle.cfg) middle) (spBelow middle.cfg k middle.sp)) :=
  ⟨middle_inv, by decide, middle_stack, rfl, rfl, rfl, by decide +kernel, by decide +kernel⟩

theorem witness_RtiUndoesInterruptEntry :
    Inv middle ∧ 3 ≤ middle.cfg.spBits ∧ StackIsRam middle ∧
      (handled (interruptEntry .timer middle)).cfg = (interruptEntry .timer middle).cfg ∧
      (handled (interruptEntry .timer middle)).sp = (interruptEntry .timer middle).sp ∧
      (handled (interruptEntry .timer middle)).mem ≠ (interruptEntry .timer middle).mem ∧
      (∀ k : Nat, k < 5 → content (handled (interruptEntry .timer middle)) (spBelow middle.cfg k middle.sp) =
        content (interruptEntry .timer middle) (spBelow middle.cfg k middle.sp)) :=
  ⟨middle_inv, by decide, middle_stack, rfl, rfl, by decide +kernel, by decide +kernel⟩

theorem witness_RtsUndoesCall :
    Inv middle ∧ StackIsRam middle ∧ (handled (callTo 0x1200 middle)).cfg = middle.cfg ∧
      (handled (callTo 0x1200 middle)).sp = (callTo 0x1200 middle).sp ∧
      (handled (callTo 0x1200 middle)).mem ≠ (callTo 0x1200 middle).mem ∧
      (∀ k : Nat, k < 2 → content (handled (callTo 0x1200 middle)) (spBelow middle.cfg k middle.sp) =
        content (callTo 0x1200 middle) (spBelow middle.cfg k middle.sp)) :=
  ⟨middle_inv, middle_stack, rfl, rfl, by decide +kernel, by decide +kernel⟩

theorem witness_StopInstruction : State.reset.cfg.family = .cmos ∧ (startHmos [] 0x00 0x00 0xE0).cfg.family = .hmos :=
  ⟨rfl, rfl⟩

theorem witness_WaitInstruction : State.reset.cfg.family = .cmos ∧ (startHmos [] 0x00 0x00 0xE0).cfg.family = .hmos :=
  ⟨rfl, rfl⟩

/-- A state in WAIT, a state in STOP. -/
def waitingState : State := (start [] 0x12 0x34 0xE0).setRunState .waiting

def stoppedState : State := (start [] 0x12 0x34 0xE0).setRunState .stopped

/-- All four outcomes: reset, the external request, the timer request, nothing. -/
theorem witness_LowPowerWakeUp :
    (Inv waitingState ∧ waitingState.runState ≠ .running ∧ step waitingState = .next waitingState) ∧
      (Inv (waitingState.setTimer requesting) ∧
        step (waitingState.setTimer requesting) = .next (interruptStep .timer (waitingState.setTimer requesting))) ∧
      (Inv (stoppedState.setPendExt true) ∧
        step (stoppedState.setPendExt true) = .next (interruptStep .ext (stoppedState.setPendExt true))) ∧
      (Inv (stoppedState.setInputs [{ noInput with reset := true }]) ∧
        step (stoppedState.setInputs [{ noInput with reset := true }]) =
          .next (resetStep (sampleInputs (stoppedState.setInputs [{ noInput with reset := true }])))) := by
  refine ⟨⟨?_, by decide, rfl⟩, ⟨?_, rfl⟩, ⟨?_, rfl⟩, ?_, rfl⟩ <;> constructor <;> decide +kernel

theorem witness_HardwareInterruptEntry :
    Inv middle ∧ 3 ≤ middle.cfg.spBits ∧ StackIsRam middle ∧
      VectorIsMemory middle (sourceVector middle.cfg .ext) ∧ VectorIsMemory middle (sourceVector middle.cfg .timer) :=
  ⟨middle_inv, by decide, middle_stack, ⟨.inl rfl, .inl rfl⟩, .inl rfl, .inl rfl⟩

/-- The clauses on the timer: none given, one given, STOPPED. -/
theorem witness_InputsOfABoundary :
    (State.reset.setInputs [noInput]).inputs = [noInput] ∧ noInput.timer = none ∧
      (State.reset.setInputs [{ noInput with timer := some requesting }]).runState ≠ .stopped ∧
      (stoppedState.setInputs [noInput]).runState = .stopped := by decide

theorem witness_ResetTaken : VectorIsMemory State.reset State.reset.cfg.vecReset := ⟨.inl rfl, .inl rfl⟩

theorem witness_StepKeepsInvariant : Inv State.reset ∧ ∃ t, step State.reset = .next t := ⟨reset_inv, _, rfl⟩

theorem witness_StepKeepsMember : ∃ t, step (startHmos [0xAD, 0x20] 0x00 0x00 0xE0) = .next t := ⟨_, rfl⟩

/-- Both clauses with a hypothesis. -/
theorem witness_NoInstructionFaults :
    Instr.rti.availableIn State.reset.cfg.family = true ∧
      step (start [0x31] 0x00 0x00 0xE0) = .fault (.undefinedOpcode 0x31) := ⟨rfl, rfl⟩

theorem witness_FlagTable : exec (.comDir 0x50) State.reset = .next (rmwMem (.dir 0x50) comOp State.reset) := rfl

theorem witness_RegisterWriters :
    (exec (.staDir 0x50) State.reset = .next (storeByte (.dir 0x50) 0x00 State.reset)) ∧ writesA (.staDir 0x50) = false ∧
      writesX (.staDir 0x50) = false ∧ transfersControl (opOf (.staDir 0x50)) = false := ⟨rfl, rfl, rfl, rfl⟩

theorem witness_StackPointerChanges : exec .rti State.reset = .next (returnFromException State.reset) := rfl

/-- The byte just below the frame is outside the stored bytes. -/
theorem witness_MemoryFrame :
    exec .swi State.reset = .next (takeException (vecSwi State.reset.cfg) State.reset) ∧
      ∀ p ∈ storesTo .swi State.reset, trunc State.reset.cfg 0x7A ≠ trunc State.reset.cfg p := by
  refine ⟨rfl, ?_⟩
  simp only [storesTo, opOf, List.mem_cons, List.not_mem_nil, or_false, forall_eq_or_imp, forall_eq]
  decide +kernel

theorem witness_HiddenStateFrame :
    exec .wait State.reset = .next ((State.reset.setCc { State.reset.cc with i := false }).setRunState .waiting) := rfl

/-- SP at both ends of the stack area. -/
theorem witness_PushThenPull :
    (Inv middle ∧ kindAt middle middle.sp = .ram ∧ middle.sp.toNat = stackLow middle.cfg) ∧
      Inv State.reset ∧ kindAt State.reset State.reset.sp = .ram ∧ State.reset.sp.toNat = 0x7F :=
  ⟨⟨middle_inv, rfl, by decide⟩, reset_inv, rfl, rfl⟩

theorem witness_StackedPcForm :
    (Config.reference.wf ∧ (0x1FFF : Addr).toNat < 2 ^ Config.reference.addrBits) ∧
      (hmos11.wf ∧ (0x7FF : Addr).toNat < 2 ^ hmos11.addrBits) ∧
      ∀ k : Nat, k < Config.reference.addrBits - 8 → (0xE4 : Byte).getLsbD k = (0x04 : Byte).getLsbD k := by
  refine ⟨by decide, by decide, ?_⟩
  show ∀ k : Nat, k < 5 → _
  decide

/-- A member with one location of each kind. -/
def mixed : State :=
  { State.reset with cfg := { Config.reference with memMap :=
    [{ base := 0, size := 4, kind := .io }, { base := 4, size := 4, kind := .writeOnly },
     { base := 8, size := 8, kind := .absent }, { base := 0x80, size := 0x1F80, kind := .rom }] } }

theorem witness_AccessByKind :
    kindAt mixed 0x10 = .ram ∧ kindAt mixed 0x1FFF = .rom ∧ kindAt mixed 0x07 = .writeOnly ∧ kindAt mixed 0x00 = .io ∧
      kindAt mixed 0x08 = .absent ∧ trunc mixed.cfg 0x2001 ≠ trunc mixed.cfg 0x2000 := by decide +kernel

/-- Out of STOP: a step that sleeps on, one that wakes. Out of WAIT and while running: a reset, an entry of each source. -/
theorem witness_StopRestartDelay :
    (stoppedState.runState = .stopped ∧ step stoppedState = .next stoppedState) ∧
      (step (stoppedState.setPendExt true) = .next (interruptStep .ext (stoppedState.setPendExt true))) ∧
      (waitingState.runState ≠ .stopped ∧ resetAsserted (waitingState.setInputs [{ noInput with reset := true }]) = true ∧
        step (waitingState.setInputs [{ noInput with reset := true }]) =
          .next (resetStep (sampleInputs (waitingState.setInputs [{ noInput with reset := true }])))) ∧
      (chooseEvent false (sampleInputs (waitingState.setTimer requesting)) = .interrupt .timer ∧
        step (waitingState.setTimer requesting) = .next (interruptStep .timer (waitingState.setTimer requesting))) ∧
      (chooseEvent false (sampleInputs ((start [] 0x12 0x34 0xE0).setPendExt true)) = .interrupt .ext ∧
        (start [] 0x12 0x34 0xE0).runState ≠ .stopped ∧
        step ((start [] 0x12 0x34 0xE0).setPendExt true) =
          .next (interruptStep .ext ((start [] 0x12 0x34 0xE0).setPendExt true))) :=
  ⟨⟨rfl, rfl⟩, rfl, ⟨by decide, rfl, rfl⟩, ⟨rfl, rfl⟩, rfl, by decide, rfl⟩

end Sys2Proof.Tests
end

section
/-! What one step can do: the shape of every completed instruction and of every boundary, and the fields all of them keep. -/

namespace Sys2Proof.Machine

/-! ### Instructions -/

/-- What an instruction does with an operand it has: immediate, read from memory, or a register under test. -/
inductive OperandUse : (Byte → State → State) → Prop
  | onA (op : Byte → Byte → CC → Byte × CC) : OperandUse (onA op)
  | onX (op : Byte → Byte → CC → Byte × CC) : OperandUse (onX op)
  | testA (op : Byte → Byte → CC → Byte × CC) : OperandUse (testA op)
  | testX (op : Byte → Byte → CC → Byte × CC) : OperandUse (testX op)
  | tst : OperandUse tstFlags

/-- The shapes a completed instruction's effect can have, one per shared operation of the model (`exec_effect`). -/
inductive Effect (s : State) : State → Prop
  | operand {go : Byte → State → State} (hgo : OperandUse go) (v : Byte) : Effect s (go v s)
  | memOperand {go : Byte → State → State} (hgo : OperandUse go) (mode : Mode) : Effect s (withOperand mode go s)
  | store (mode : Mode) (v : Byte) : Effect s (storeByte mode v s)
  | rmwA (op : Byte → CC → Byte × CC) : Effect s (rmwA op s)
  | rmwX (op : Byte → CC → Byte × CC) : Effect s (rmwX op s)
  | rmwMem (mode : Mode) (op : Byte → CC → Byte × CC) : Effect s (rmwMem mode op s)
  | modifyBit (d : Byte) (change : Byte → Byte) : Effect s (modifyBit d change s)
  | branchOnBit (n : BitVec 3) (d r : Byte) (want : Bool) : Effect s (branchOnBit n d r want s)
  | branch (cond : Bool) (r : Byte) : Effect s (branchIf cond r s)
  | jump (mode : Mode) : Effect s (s.setPc (ea mode s))
  | call (target : Addr) : Effect s (callTo target s)
  | rts : Effect s (pullPc s)
  | rti : Effect s (returnFromException s)
  | swi : Effect s (takeException (vecSwi s.cfg) s)
  | stop (hcmos : s.cfg.family = .cmos) :
      Effect s (((s.setCc { s.cc with i := false }).setTimer (timerStopEffects s.timer)).setRunState .stopped)
  | wait (hcmos : s.cfg.family = .cmos) : Effect s ((s.setCc { s.cc with i := false }).setRunState .waiting)
  | setCc (cc : CC) : Effect s (s.setCc cc)
  | tax : Effect s (s.setX s.a)
  | txa : Effect s (s.setA s.x)
  | rsp : Effect s (s.setSp stackTop)
  | nop : Effect s s

/-- STOP completes on CMOS alone. -/
theorem execStop_next {s t : State} (h : execStop s = .next t) : Effect s t := by
  unfold execStop at h
  split at h
  · cases h
  · next hcmos => cases h; exact .stop hcmos

/-- WAIT completes on CMOS alone. -/
theorem execWait_next {s t : State} (h : execWait s = .next t) : Effect s t := by
  unfold execWait at h
  split at h
  · cases h
  · next hcmos => cases h; exact .wait hcmos

/-- Everything an instruction that completes can do. -/
theorem exec_effect {i : Instr} {s t : State} (h : exec i s = .next t) : Effect s t := by
  cases i with
  | stop => exact execStop_next h
  | wait => exact execWait_next h
  | rti => cases h; exact .rti
  | rts => cases h; exact .rts
  | swi => cases h; exact .swi
  | tax => cases h; exact .tax
  | txa => cases h; exact .txa
  | rsp => cases h; exact .rsp
  | nop => cases h; exact .nop
  | clc | sec | cli | sei => cases h; exact .setCc _
  | brset | brclr => cases h; exact .branchOnBit ..
  | bset | bclr => cases h; exact .modifyBit ..
  | bra | brn | bhi | bls | bcc | bcs | bne | beq | bhcc | bhcs | bpl | bmi | bmc | bms | bil | bih | bhs | blo =>
    cases h; exact .branch ..
  | jmpDir | jmpExt | jmpIx2 | jmpIx1 | jmpIx => cases h; exact .jump _
  | bsr | jsrDir | jsrExt | jsrIx2 | jsrIx1 | jsrIx => cases h; exact .call _
  | staDir | staExt | staIx2 | staIx1 | staIx | stxDir | stxExt | stxIx2 | stxIx1 | stxIx => cases h; exact .store ..
  | nega | coma | lsra | rora | asra | lsla | asla | rola | deca | inca | clra => cases h; exact .rmwA _
  | negx | comx | lsrx | rorx | asrx | lslx | aslx | rolx | decx | incx | clrx => cases h; exact .rmwX _
  | negDir | negIx1 | negIx | comDir | comIx1 | comIx | lsrDir | lsrIx1 | lsrIx | rorDir | rorIx1 | rorIx
  | asrDir | asrIx1 | asrIx | lslDir | lslIx1 | lslIx | aslDir | aslIx1 | aslIx | rolDir | rolIx1 | rolIx
  | decDir | decIx1 | decIx | incDir | incIx1 | incIx | clrDir | clrIx1 | clrIx => cases h; exact .rmwMem ..
  | tsta | tstx => cases h; exact .operand .tst _
  | tstDir | tstIx1 | tstIx => cases h; exact .memOperand .tst _
  | subImm | sbcImm | andImm | ldaImm | eorImm | adcImm | oraImm | addImm => cases h; exact .operand (.onA _) _
  | subDir | subExt | subIx2 | subIx1 | subIx | sbcDir | sbcExt | sbcIx2 | sbcIx1 | sbcIx
  | andDir | andExt | andIx2 | andIx1 | andIx | ldaDir | ldaExt | ldaIx2 | ldaIx1 | ldaIx
  | eorDir | eorExt | eorIx2 | eorIx1 | eorIx | adcDir | adcExt | adcIx2 | adcIx1 | adcIx
  | oraDir | oraExt | oraIx2 | oraIx1 | oraIx | addDir | addExt | addIx2 | addIx1 | addIx =>
    cases h; exact .memOperand (.onA _) _
  | cmpImm | bitImm => cases h; exact .operand (.testA _) _
  | cmpDir | cmpExt | cmpIx2 | cmpIx1 | cmpIx | bitDir | bitExt | bitIx2 | bitIx1 | bitIx =>
    cases h; exact .memOperand (.testA _) _
  | cpxImm => cases h; exact .operand (.testX _) _
  | cpxDir | cpxExt | cpxIx2 | cpxIx1 | cpxIx => cases h; exact .memOperand (.testX _) _
  | ldxImm => cases h; exact .operand (.onX _) _
  | ldxDir | ldxExt | ldxIx2 | ldxIx1 | ldxIx => cases h; exact .memOperand (.onX _) _

theorem OperandUse.keeps_cfg {go : Byte → State → State} (hgo : OperandUse go) (v : Byte) (s : State) :
    (go v s).cfg = s.cfg := by
  cases hgo <;> rfl

theorem Effect.keeps_cfg {s t : State} (h : Effect s t) : t.cfg = s.cfg := by
  cases h with
  | operand hgo v => exact hgo.keeps_cfg v s
  | memOperand hgo mode => rw [withOperand_eq, hgo.keeps_cfg, afterRead_cfg]
  | store mode v => exact storeByte_cfg mode v s
  | rmwMem mode op => exact rmwMem_cfg mode op s
  | modifyBit d change => exact modifyBit_cfg d change s
  | branchOnBit n d r want => exact branchOnBit_cfg n d r want s
  | branch cond r => exact branchIf_cfg cond r s
  | call target => exact callTo_cfg target s
  | rts => exact pullPc_cfg s
  | rti => exact returnFromException_cfg s
  | swi => exact takeException_cfg _ s
  | rmwA | rmwX | jump | stop | wait | setCc | tax | txa | rsp | nop => rfl

theorem exec_keeps_cfg {i : Instr} {s t : State} (h : exec i s = .next t) : t.cfg = s.cfg :=
  (exec_effect h).keeps_cfg

/-! ### Steps -/

/-- Charging cycles lets only a completed instruction through, and counts its cycles. -/
theorem charge_next {count : Nat} {o : Host.Outcome State Fault Refusal} {t : State} (h : charge count o = .next t) :
    ∃ u, o = .next u ∧ t = addCycles count u := by
  cases o with
  | next u => cases h; exact ⟨u, rfl, rfl⟩
  | fault r => cases h
  | refused r => cases h

/-- A step that runs an instruction decoded one, which completed after its fetch. -/
theorem runInstruction_next {s t : State} (h : runInstruction s = .next t) :
    ∃ i rest u, (fetchInstr s).1 = .ok i rest ∧ exec i (fetchInstr s).2 = .next u ∧
      t = addCycles (cyclesOf s.cfg.family i) u := by
  unfold runInstruction at h
  split at h
  · next i rest fetched hf =>
    obtain ⟨u, hu, ht⟩ := charge_next h
    rw [hf]
    exact ⟨i, rest, u, rfl, hu, ht⟩
  · cases h

/-- Everything a step that answers a state can do, by the event chosen once the inputs are taken (R305). -/
theorem step_cases {s t : State} (h : step s = .next t) :
    (chooseEvent (resetAsserted s) (sampleInputs s) = .reset ∧ t = resetStep (sampleInputs s)) ∨
    (∃ src, chooseEvent (resetAsserted s) (sampleInputs s) = .interrupt src ∧ t = interruptStep src (sampleInputs s)) ∨
    (chooseEvent (resetAsserted s) (sampleInputs s) = .instruction ∧ runInstruction (sampleInputs s) = .next t) ∨
    (chooseEvent (resetAsserted s) (sampleInputs s) = .idle ∧ t = sampleInputs s) := by
  unfold step at h
  cases hev : chooseEvent (resetAsserted s) (sampleInputs s) <;> simp only [hev] at h
  case reset => cases h; exact .inl ⟨rfl, rfl⟩
  case interrupt src => cases h; exact .inr (.inl ⟨src, rfl, rfl⟩)
  case instruction => exact .inr (.inr (.inl ⟨rfl, h⟩))
  case idle => cases h; exact .inr (.inr (.inr ⟨rfl, rfl⟩))

@[simp] theorem addCycles_cfg (count : Nat) (s : State) : (addCycles count s).cfg = s.cfg := rfl

theorem resetStep_cfg (s : State) : (resetStep s).cfg = s.cfg := takeReset_cfg s

theorem interruptStep_cfg (src : Source) (s : State) : (interruptStep src s).cfg = s.cfg := interruptEntry_cfg src s

theorem runInstruction_keeps_cfg {s t : State} (h : runInstruction s = .next t) : t.cfg = s.cfg := by
  obtain ⟨i, rest, u, -, hu, rfl⟩ := runInstruction_next h
  rw [addCycles_cfg, exec_keeps_cfg hu, fetchInstr_cfg]

/-- Settles O48: the boundary's event decides what the step does, and no event reaches the member's parameters. -/
theorem stepKeepsMember : Obligations.StepKeepsMember := by
  intro s t h
  obtain ⟨-, rfl⟩ | ⟨src, -, rfl⟩ | ⟨-, hrun⟩ | ⟨-, rfl⟩ := step_cases h
  · rw [resetStep_cfg, sampleInputs_cfg]
  · rw [interruptStep_cfg, sampleInputs_cfg]
  · rw [runInstruction_keeps_cfg hrun, sampleInputs_cfg]
  · exact sampleInputs_cfg s

end Sys2Proof.Machine
end

section
/-! The stack pointer's counting field, the stacked form of the PC and the stacked flags: what a push and a pull do to SP, and
what comes back of the bytes a call or an interrupt has stacked. -/

namespace Sys2Proof.Machine

/-! ### The counting field of SP (R30, R34, R35) -/

theorem addrBits_le {c : Config} (hc : c.wf) : c.addrBits ≤ 16 := hc.2.1

theorem spBits_le {c : Config} (hc : c.wf) : c.spBits ≤ 7 := hc.2.2.2

/-- The values SP can hold (R30). -/
def SpInRange (c : Config) (sp : Addr) : Prop := stackLow c ≤ sp.toNat ∧ sp.toNat ≤ 0x7F

/-- The counting field is what `trunc` keeps of an address on a member with as many address bits. -/
theorem spField_toNat {c : Config} (h : c.wf) (v : Addr) : (v &&& spMask c).toNat = v.toNat % 2 ^ c.spBits :=
  trunc_toNat (c := { c with addrBits := c.spBits }) (show c.spBits ≤ 16 by omega) v

/-- The fixed bits and the counting field share no bit, so putting them together is adding them. -/
theorem fixedBits_or_field (m sp f : Addr) : (sp &&& ~~~m) ||| (f &&& m) = (sp - (sp &&& m)) + (f &&& m) := by
  have disjoint (g : Addr) : (sp &&& ~~~m) &&& (g &&& m) = 0#16 := by ext k; simp; grind
  have whole : (sp &&& ~~~m) + (sp &&& m) = sp := by
    rw [BitVec.add_eq_or_of_and_eq_zero _ _ (disjoint sp)]; ext k; simp; grind
  rw [← BitVec.add_eq_or_of_and_eq_zero _ _ (disjoint f), ← BitVec.eq_sub_iff_add_eq.mpr whole]

/-- Inside the stack area the counting field is the distance from its bottom. -/
theorem SpInRange.field {c : Config} (hc : c.wf) {sp : Addr} (h : SpInRange c sp) :
    sp.toNat % 2 ^ c.spBits = sp.toNat - stackLow c := by
  obtain ⟨hlow, hhigh⟩ := h
  obtain ⟨-, -, hmin, hmax⟩ := hc
  simp only [stackLow] at *
  generalize c.spBits = b at *
  interval_cases b <;> omega

/-- A stack pointer in range with its counting field replaced. -/
theorem SpInRange.withField_toNat {c : Config} (hc : c.wf) {sp : Addr} (h : SpInRange c sp) (f : Addr) :
    ((sp &&& ~~~(spMask c)) ||| (f &&& spMask c)).toNat = stackLow c + f.toNat % 2 ^ c.spBits := by
  have hP : 2 ^ c.spBits ≤ 2 ^ 7 := Nat.pow_le_pow_right (by decide) (spBits_le hc)
  have hf : f.toNat % 2 ^ c.spBits < 2 ^ c.spBits := Nat.mod_lt _ (Nat.two_pow_pos _)
  obtain ⟨hlow, hhigh⟩ := id h
  have hlow' : stackLow c = 0x80 - 2 ^ c.spBits := rfl
  rw [fixedBits_or_field, BitVec.toNat_add, BitVec.toNat_sub, spField_toNat hc, spField_toNat hc, h.field hc]
  omega

/-- A push moves SP one lower and wraps at the bottom of the stack area (R32, R34). -/
theorem spDown_toNat {c : Config} (hc : c.wf) {sp : Addr} (h : SpInRange c sp) :
    (spDown c sp).toNat = if sp.toNat = stackLow c then 0x7F else sp.toNat - 1 := by
  rw [spDown, h.withField_toNat hc, BitVec.toNat_sub, spField_toNat hc, h.field hc,
    show BitVec.toNat (1 : Addr) = 1 from rfl]
  obtain ⟨hlow, hhigh⟩ := h
  obtain ⟨-, -, hmin, hmax⟩ := hc
  split <;> simp only [stackLow] at *
  all_goals
    generalize c.spBits = b at *
    interval_cases b <;> omega

/-- A pull moves SP one higher and wraps at its top (R35, decision D3). -/
theorem spUp_toNat {c : Config} (hc : c.wf) {sp : Addr} (h : SpInRange c sp) :
    (spUp c sp).toNat = if sp.toNat = 0x7F then stackLow c else sp.toNat + 1 := by
  rw [spUp, h.withField_toNat hc, BitVec.toNat_add, spField_toNat hc, h.field hc,
    show BitVec.toNat (1 : Addr) = 1 from rfl]
  obtain ⟨hlow, hhigh⟩ := h
  obtain ⟨-, -, hmin, hmax⟩ := hc
  split <;> simp only [stackLow] at *
  all_goals
    generalize c.spBits = b at *
    interval_cases b <;> omega

theorem stackLow_lt {c : Config} : stackLow c < 0x80 := Nat.sub_lt (by decide) (Nat.two_pow_pos _)

theorem SpInRange.spDown {c : Config} (hc : c.wf) {sp : Addr} (h : SpInRange c sp) : SpInRange c (spDown c sp) := by
  have hlow := stackLow_lt (c := c)
  have e := spDown_toNat hc h
  unfold SpInRange at h ⊢
  split at e <;> omega

theorem SpInRange.spUp {c : Config} (hc : c.wf) {sp : Addr} (h : SpInRange c sp) : SpInRange c (spUp c sp) := by
  have hlow := stackLow_lt (c := c)
  have e := spUp_toNat hc h
  unfold SpInRange at h ⊢
  split at e <;> omega

theorem spInRange_stackTop (c : Config) : SpInRange c stackTop := ⟨Nat.le_of_lt_succ stackLow_lt, Nat.le_refl _⟩

theorem spUp_spDown {c : Config} (hc : c.wf) {sp : Addr} (h : SpInRange c sp) : spUp c (spDown c sp) = sp := by
  apply BitVec.eq_of_toNat_eq
  have hlow := stackLow_lt (c := c)
  have hd := spDown_toNat hc h
  rw [spUp_toNat hc (h.spDown hc)]
  obtain ⟨hlo, hhi⟩ := h
  split at hd <;> split <;> omega

theorem spDown_ne_self {c : Config} (hc : c.wf) {sp : Addr} (h : SpInRange c sp) : spDown c sp ≠ sp := by
  intro e
  have hpos : 2 ≤ 2 ^ c.spBits := Nat.le_self_pow (by omega) 2
  have hd := spDown_toNat hc h
  have hlow : stackLow c = 0x80 - 2 ^ c.spBits := rfl
  rw [e] at hd
  obtain ⟨hlo, hhi⟩ := h
  split at hd <;> omega

/-- The stack area lies below every truncation. -/
theorem SpInRange.trunc_eq {c : Config} (hc : c.wf) {sp : Addr} (h : SpInRange c sp) : trunc c sp = sp := by
  have hP : 2 ^ 11 ≤ 2 ^ c.addrBits := Nat.pow_le_pow_right (by decide) hc.1
  exact trunc_of_lt (addrBits_le hc) (lt_of_le_of_lt h.2 (by omega))

theorem Inv.sp {s : State} (h : Inv s) : SpInRange s.cfg s.sp := h.spInRange

/-! ### A pull after a push -/

theorem pull_push {s : State} (hc : s.cfg.wf) (hsp : SpInRange s.cfg s.sp) (hram : kindAt s s.sp = .ram) (v : Byte) :
    pull (push v s) = (v, (push v s).setSp s.sp) := by
  have hup : spUp (push v s).cfg (push v s).sp = s.sp := by rw [push_cfg, push_sp, spUp_spDown hc hsp]
  have hk : kindAt (push v s) s.sp = .ram := (kindAt_congr (push_cfg v s) _).trans hram
  rw [pull_memory (by rw [hup]; exact hk), hup, content_push hram, if_pos rfl]

/-- Settles O56: the byte comes back because the slot written is the slot read, and SP's moves are those of its counting
field. -/
theorem pushThenPull : Obligations.PushThenPull := by
  refine ⟨fun s v h hram => ?_, fun s h => ⟨spDown_toNat h.config h.sp, spUp_toNat h.config h.sp⟩⟩
  rw [pull_push h.config h.sp hram]
  exact ⟨rfl, rfl⟩

/-! ### The stacked form of the PC (R33) -/

theorem trunc_getLsbD (c : Config) (v : Addr) {k : Nat} (hk : k < 16) :
    (trunc c v).getLsbD k = (v.getLsbD k && decide (k < c.addrBits)) := by
  simp only [trunc, addrMask, BitVec.getLsbD_and, BitVec.getLsbD_ofNat, Nat.testBit_two_pow_sub_one, hk,
    decide_true, Bool.true_and]

theorem wordOf_getLsbD (hi lo : Byte) (k : Nat) :
    (wordOf hi lo).getLsbD k = if k < 8 then lo.getLsbD k else hi.getLsbD (k - 8) := by
  exact BitVec.getLsbD_append

theorem hiByte_getLsbD (w : Addr) {k : Nat} (hk : k < 8) : (hiByte w).getLsbD k = w.getLsbD (k + 8) := by
  simp [hiByte, hk, Nat.add_comm]

/-- The fill is ones above the PC on HMOS, nothing on CMOS. -/
theorem fillByte_getLsbD {c : Config} (hc : c.wf) {k : Nat} (hk : k < 8) :
    (fillByte c).getLsbD k = (decide (c.family = .hmos) && decide (c.addrBits - 8 ≤ k)) := by
  obtain ⟨hmin, hmax, -, -⟩ := hc
  unfold fillByte
  cases c.family with
  | cmos => simp
  | hmos =>
    simp only [BitVec.getLsbD_ofNat, Nat.testBit_shiftLeft, Nat.testBit_two_pow_sub_one, hk]
    simp
    omega

/-- The bits of PCH: the PC's own, and the fill above them. -/
theorem pchByte_getLsbD {c : Config} (hc : c.wf) (pc : Addr) {k : Nat} (hk : k < 8) :
    (pchByte c pc).getLsbD k =
      if k < c.addrBits - 8 then pc.getLsbD (k + 8) else decide (c.family = .hmos) := by
  rw [pchByte, BitVec.getLsbD_or, fillByte_getLsbD hc hk, hiByte_getLsbD _ hk, trunc_getLsbD _ _ (by omega)]
  split
  · next h => simp [show ¬c.addrBits - 8 ≤ k by omega, show k + 8 < c.addrBits by omega]
  · next h => simp [show c.addrBits - 8 ≤ k by omega, show ¬k + 8 < c.addrBits by omega]

/-- A pulled PC depends only on the PC's own bits of the high byte. -/
theorem trunc_wordOf_congr {c : Config} {h1 h2 : Byte} (lo : Byte)
    (h : ∀ k < c.addrBits - 8, h1.getLsbD k = h2.getLsbD k) : trunc c (wordOf h1 lo) = trunc c (wordOf h2 lo) := by
  apply BitVec.eq_of_getLsbD_eq
  intro k hk
  rw [trunc_getLsbD _ _ hk, trunc_getLsbD _ _ hk, wordOf_getLsbD, wordOf_getLsbD]
  by_cases hlo : k < 8
  · simp [hlo]
  · by_cases hpc : k < c.addrBits
    · rw [if_neg hlo, if_neg hlo, h (k - 8) (by omega)]
    · simp [hpc]

/-- Stacked and pulled, the PC comes back on either family. -/
theorem trunc_wordOf_stackedPc {c : Config} (hc : c.wf) {pc : Addr} (hpc : pc.toNat < 2 ^ c.addrBits) :
    trunc c (wordOf (pchByte c pc) (pclByte pc)) = pc := by
  have own : ∀ k < c.addrBits - 8, (pchByte c pc).getLsbD k = (hiByte pc).getLsbD k := by
    intro k hk
    rw [pchByte_getLsbD hc pc (by omega), if_pos hk, hiByte_getLsbD _ (by omega)]
  rw [trunc_wordOf_congr _ own, pclByte, wordOf_hiByte_loByte, trunc_of_lt (addrBits_le hc) hpc]

/-- Settles O57, bit by bit. -/
theorem stackedPcForm : Obligations.StackedPcForm := fun _ pc hc hpc =>
  ⟨loByte_toNat pc, fun _ hk => pchByte_getLsbD hc pc hk, trunc_wordOf_stackedPc hc hpc,
    fun _ _ lo h => trunc_wordOf_congr lo h⟩

/-! ### The stacked flags (R40, R41) -/

theorem ccOfByte_ccByte (cc : CC) : ccOfByte (ccByte cc) = cc := by
  obtain ⟨h, i, n, z, c⟩ := cc
  revert h i n z c
  decide

/-- Bits 7 to 5 are no flags. -/
theorem ccOfByte_and_flagBits (b : Byte) : ccOfByte (b &&& 0x1F) = ccOfByte b := by
  simp [ccOfByte]

/-- Settles O58: the byte is written out flag by flag. -/
theorem stackedFlagsForm : Obligations.StackedFlagsForm := by
  refine ⟨fun cc => ?_, ccOfByte_ccByte, fun b => (ccOfByte_and_flagBits b).symm⟩
  obtain ⟨h, i, n, z, c⟩ := cc
  revert h i n z c
  decide

/-! ### A call and its return -/

/-- What a call leaves in its two slots. -/
theorem content_callTo {s : State} (h : Inv s) (hram : StackIsRam s) (target : Addr) :
    content (callTo target s) s.sp = pclByte s.pc ∧
      content (callTo target s) (spDown s.cfg s.sp) = pchByte s.cfg s.pc := by
  have hdown := h.sp.spDown h.config
  have hk : kindAt (push (pclByte s.pc) s) (push (pclByte s.pc) s).sp = .ram :=
    (kindAt_congr (push_cfg _ s) _).trans (hram _ hdown.1 hdown.2)
  have e (b : Addr) : content (callTo target s) b = content (push (pchByte s.cfg s.pc) (push (pclByte s.pc) s)) b := rfl
  simp only [e, content_push hk, content_push (hram _ h.sp.1 h.sp.2), push_cfg, push_sp, hdown.trunc_eq h.config,
    h.sp.trunc_eq h.config, (spDown_ne_self h.config h.sp).symm, if_true, if_false, and_self]

/-- Pulling the PC from RAM. -/
theorem pullPc_memory {s : State} (h1 : kindAt s (spUp s.cfg s.sp) = .ram)
    (h2 : kindAt s (spUp s.cfg (spUp s.cfg s.sp)) = .ram) :
    pullPc s = (s.setSp (spUp s.cfg (spUp s.cfg s.sp))).setPc
      (trunc s.cfg (wordOf (content s (spUp s.cfg s.sp)) (content s (spUp s.cfg (spUp s.cfg s.sp))))) := by
  simp only [pullPc, pull_memory h1]
  rw [pull_memory h2]
  rfl

/-- Settles O38: the return finds the two bytes of the call in its slots, and they are the PC. -/
theorem rtsUndoesCall : Obligations.RtsUndoesCall := by
  intro target s u h hram hcfg hsp hslots
  obtain ⟨hpcl, hpch⟩ := content_callTo h hram target
  have hdown := h.sp.spDown h.config
  have up1 : spUp u.cfg u.sp = spDown s.cfg s.sp := by rw [hcfg, hsp, callTo_sp, spUp_spDown h.config hdown]
  have up2 : spUp u.cfg (spDown s.cfg s.sp) = s.sp := by rw [hcfg, spUp_spDown h.config h.sp]
  have lo : content u s.sp = pclByte s.pc := (hslots 0 (by decide)).trans hpcl
  have hi : content u (spDown s.cfg s.sp) = pchByte s.cfg s.pc := (hslots 1 (by decide)).trans hpch
  show Host.Outcome.next (pullPc u) = _
  rw [pullPc_memory, up1, up2, lo, hi, hcfg, trunc_wordOf_stackedPc h.config h.pcInRange]
  · rw [up1]; exact (kindAt_congr hcfg _).trans (hram _ hdown.1 hdown.2)
  · rw [up1, up2]; exact (kindAt_congr hcfg _).trans (hram _ h.sp.1 h.sp.2)

end Sys2Proof.Machine
end

section
/-! What each instruction means as a function on the state, by the instruction it is a form of and the place of its operand: the
one case split over the rows of the opcode table that the statements about all instructions go through. `Effect` gives a
completed instruction's shape alone; these statements need to know which instruction it was, and on which operand. -/

namespace Sys2Proof.Machine

/-- The instructions that read an operand and write nothing back, with what they do with it. -/
inductive OperandOp : Op → (Byte → State → State) → Prop
  | adc : OperandOp .adc (onA adcOp)
  | add : OperandOp .add (onA addOp)
  | and : OperandOp .and (onA andOp)
  | eor : OperandOp .eor (onA eorOp)
  | ora : OperandOp .ora (onA oraOp)
  | sbc : OperandOp .sbc (onA sbcOp)
  | sub : OperandOp .sub (onA subOp)
  | lda : OperandOp .lda (onA loadOp)
  | ldx : OperandOp .ldx (onX loadOp)
  | cmp : OperandOp .cmp (testA subOp)
  | bit : OperandOp .bit (testA andOp)
  | cpx : OperandOp .cpx (testX subOp)
  | tst : OperandOp .tst tstFlags

/-- The instructions that write their operand back, with their function of the byte. -/
inductive ModifyOp : Op → (Byte → CC → Byte × CC) → Prop
  | neg : ModifyOp .neg negOp
  | com : ModifyOp .com comOp
  | lsr : ModifyOp .lsr lsrOp
  | ror : ModifyOp .ror rorOp
  | asr : ModifyOp .asr asrOp
  | lsl : ModifyOp .lsl lslOp
  | rol : ModifyOp .rol rolOp
  | dec : ModifyOp .dec decOp
  | inc : ModifyOp .inc incOp
  | clr : ModifyOp .clr clrOp

/-- The two-byte branches, with their conditions. -/
inductive BranchOp : Op → (State → Bool) → Prop
  | bra : BranchOp .bra fun _ => true
  | brn : BranchOp .brn fun _ => false
  | bhi : BranchOp .bhi fun s => higher s.cc
  | bls : BranchOp .bls fun s => !higher s.cc
  | bcc : BranchOp .bcc fun s => !s.cc.c
  | bcs : BranchOp .bcs fun s => s.cc.c
  | bne : BranchOp .bne fun s => !s.cc.z
  | beq : BranchOp .beq fun s => s.cc.z
  | bhcc : BranchOp .bhcc fun s => !s.cc.h
  | bhcs : BranchOp .bhcs fun s => s.cc.h
  | bpl : BranchOp .bpl fun s => !s.cc.n
  | bmi : BranchOp .bmi fun s => s.cc.n
  | bmc : BranchOp .bmc fun s => !s.cc.i
  | bms : BranchOp .bms fun s => s.cc.i
  | bil : BranchOp .bil fun s => !s.intPin
  | bih : BranchOp .bih fun s => s.intPin

/-- What an instruction does on a member that has it, by instruction and operand place (`exec_eq_meaning`). -/
inductive Meaning : Op → Place → (State → State) → Prop
  | immediate {op : Op} {go : Byte → State → State} (hop : OperandOp op go) (v : Byte) : Meaning op .imm (go v)
  | operand {op : Op} {go : Byte → State → State} (hop : OperandOp op go) (mode : Mode) :
      Meaning op (.mem mode) (withOperand mode go)
  | testRegA : Meaning .tst .regA fun s => tstFlags s.a s
  | testRegX : Meaning .tst .regX fun s => tstFlags s.x s
  | modifyA {op : Op} {f : Byte → CC → Byte × CC} (hop : ModifyOp op f) : Meaning op .regA (rmwA f)
  | modifyX {op : Op} {f : Byte → CC → Byte × CC} (hop : ModifyOp op f) : Meaning op .regX (rmwX f)
  | modifyMem {op : Op} {f : Byte → CC → Byte × CC} (hop : ModifyOp op f) (mode : Mode) :
      Meaning op (.mem mode) (rmwMem mode f)
  | storeA (mode : Mode) : Meaning .sta (.mem mode) fun s => storeByte mode s.a s
  | storeX (mode : Mode) : Meaning .stx (.mem mode) fun s => storeByte mode s.x s
  | setBit (n : BitVec 3) (d : Byte) : Meaning .bset (.mem (.dir d)) (modifyBit d fun v => v ||| bitMask n)
  | clearBit (n : BitVec 3) (d : Byte) : Meaning .bclr (.mem (.dir d)) (modifyBit d fun v => v &&& ~~~(bitMask n))
  | branchIfSet (n : BitVec 3) (d r : Byte) : Meaning .brset (.mem (.dir d)) (branchOnBit n d r true)
  | branchIfClear (n : BitVec 3) (d r : Byte) : Meaning .brclr (.mem (.dir d)) (branchOnBit n d r false)
  | branch {op : Op} {cond : State → Bool} (hop : BranchOp op cond) (r : Byte) :
      Meaning op .none fun s => branchIf (cond s) r s
  | jump (mode : Mode) : Meaning .jmp (.mem mode) fun s => s.setPc (ea mode s)
  | jumpSub (mode : Mode) : Meaning .jsr (.mem mode) fun s => callTo (ea mode s) s
  | branchSub (r : Byte) : Meaning .bsr .none fun s => callTo (relTarget r s) s
  | rts : Meaning .rts .none pullPc
  | rti : Meaning .rti .none returnFromException
  | swi : Meaning .swi .none fun s => takeException (vecSwi s.cfg) s
  | stop : Meaning .stop .none fun s =>
      ((s.setCc { s.cc with i := false }).setTimer (timerStopEffects s.timer)).setRunState .stopped
  | wait : Meaning .wait .none fun s => (s.setCc { s.cc with i := false }).setRunState .waiting
  | tax : Meaning .tax .none fun s => s.setX s.a
  | txa : Meaning .txa .none fun s => s.setA s.x
  | rsp : Meaning .rsp .none fun s => s.setSp stackTop
  | nop : Meaning .nop .none fun s => s
  | clc : Meaning .clc .none fun s => s.setCc { s.cc with c := false }
  | sec : Meaning .sec .none fun s => s.setCc { s.cc with c := true }
  | cli : Meaning .cli .none fun s => s.setCc { s.cc with i := false }
  | sei : Meaning .sei .none fun s => s.setCc { s.cc with i := true }

theorem cmos_of_available_stop {fam : Family} (h : Instr.stop.availableIn fam = true) : fam = .cmos := by
  cases fam with
  | hmos => cases h
  | cmos => rfl

theorem cmos_of_available_wait {fam : Family} (h : Instr.wait.availableIn fam = true) : fam = .cmos := by
  cases fam with
  | hmos => cases h
  | cmos => rfl

/-- Every instruction runs as its meaning says, on a member that has it. -/
theorem exec_eq_meaning (i : Instr) : ∃ f, Meaning (opOf i) (placeOf i) f ∧
    ∀ s : State, i.availableIn s.cfg.family = true → exec i s = .next (f s) := by
  cases i with
  | stop => exact ⟨_, .stop, fun s h => by simp only [exec, execStop, cmos_of_available_stop h]⟩
  | wait => exact ⟨_, .wait, fun s h => by simp only [exec, execWait, cmos_of_available_wait h]⟩
  | rti => exact ⟨_, .rti, fun _ _ => rfl⟩
  | rts => exact ⟨_, .rts, fun _ _ => rfl⟩
  | swi => exact ⟨_, .swi, fun _ _ => rfl⟩
  | tax => exact ⟨_, .tax, fun _ _ => rfl⟩
  | txa => exact ⟨_, .txa, fun _ _ => rfl⟩
  | rsp => exact ⟨_, .rsp, fun _ _ => rfl⟩
  | nop => exact ⟨_, .nop, fun _ _ => rfl⟩
  | clc => exact ⟨_, .clc, fun _ _ => rfl⟩
  | sec => exact ⟨_, .sec, fun _ _ => rfl⟩
  | cli => exact ⟨_, .cli, fun _ _ => rfl⟩
  | sei => exact ⟨_, .sei, fun _ _ => rfl⟩
  | brset n d r => exact ⟨_, .branchIfSet n d r, fun _ _ => rfl⟩
  | brclr n d r => exact ⟨_, .branchIfClear n d r, fun _ _ => rfl⟩
  | bset n d => exact ⟨_, .setBit n d, fun _ _ => rfl⟩
  | bclr n d => exact ⟨_, .clearBit n d, fun _ _ => rfl⟩
  | bsr r => exact ⟨_, .branchSub r, fun _ _ => rfl⟩
  | bra | brn | bhi | bls | bcc | bcs | bne | beq | bhcc | bhcs | bpl | bmi | bmc | bms | bil | bih | bhs | blo =>
    exact ⟨_, .branch (by constructor) _, fun _ _ => rfl⟩
  | jmpDir | jmpExt | jmpIx2 | jmpIx1 | jmpIx => exact ⟨_, .jump _, fun _ _ => rfl⟩
  | jsrDir | jsrExt | jsrIx2 | jsrIx1 | jsrIx => exact ⟨_, .jumpSub _, fun _ _ => rfl⟩
  | staDir | staExt | staIx2 | staIx1 | staIx => exact ⟨_, .storeA _, fun _ _ => rfl⟩
  | stxDir | stxExt | stxIx2 | stxIx1 | stxIx => exact ⟨_, .storeX _, fun _ _ => rfl⟩
  | tsta => exact ⟨_, .testRegA, fun _ _ => rfl⟩
  | tstx => exact ⟨_, .testRegX, fun _ _ => rfl⟩
  | nega | coma | lsra | rora | asra | lsla | asla | rola | deca | inca | clra =>
    exact ⟨_, .modifyA (by constructor), fun _ _ => rfl⟩
  | negx | comx | lsrx | rorx | asrx | lslx | aslx | rolx | decx | incx | clrx =>
    exact ⟨_, .modifyX (by constructor), fun _ _ => rfl⟩
  | negDir | negIx1 | negIx | comDir | comIx1 | comIx | lsrDir | lsrIx1 | lsrIx | rorDir | rorIx1 | rorIx
  | asrDir | asrIx1 | asrIx | lslDir | lslIx1 | lslIx | aslDir | aslIx1 | aslIx | rolDir | rolIx1 | rolIx
  | decDir | decIx1 | decIx | incDir | incIx1 | incIx | clrDir | clrIx1 | clrIx =>
    exact ⟨_, .modifyMem (by constructor) _, fun _ _ => rfl⟩
  | subImm | sbcImm | andImm | ldaImm | eorImm | adcImm | oraImm | addImm | cmpImm | bitImm | cpxImm | ldxImm =>
    exact ⟨_, .immediate (by constructor) _, fun _ _ => rfl⟩
  | subDir | subExt | subIx2 | subIx1 | subIx | sbcDir | sbcExt | sbcIx2 | sbcIx1 | sbcIx
  | andDir | andExt | andIx2 | andIx1 | andIx | ldaDir | ldaExt | ldaIx2 | ldaIx1 | ldaIx
  | eorDir | eorExt | eorIx2 | eorIx1 | eorIx | adcDir | adcExt | adcIx2 | adcIx1 | adcIx
  | oraDir | oraExt | oraIx2 | oraIx1 | oraIx | addDir | addExt | addIx2 | addIx1 | addIx
  | cmpDir | cmpExt | cmpIx2 | cmpIx1 | cmpIx | bitDir | bitExt | bitIx2 | bitIx1 | bitIx
  | cpxDir | cpxExt | cpxIx2 | cpxIx1 | cpxIx | ldxDir | ldxExt | ldxIx2 | ldxIx1 | ldxIx | tstDir | tstIx1 | tstIx =>
    exact ⟨_, .operand (by constructor) _, fun _ _ => rfl⟩

/-- What a member does not have, it answers with a fault, whatever the rest of the state. -/
theorem exec_unavailable {i : Instr} {fam : Family} (h : i.availableIn fam = false) :
    ∃ r, ∀ s : State, s.cfg.family = fam → exec i s = .fault r := by
  unfold Instr.availableIn at h
  split at h
  · exact ⟨_, fun s hs => by simp only [exec, execStop, hs]; rfl⟩
  · exact ⟨_, fun s hs => by simp only [exec, execWait, hs]; rfl⟩
  · cases h

/-- A completed instruction ran as its meaning says. -/
theorem exec_next {i : Instr} {s t : State} (h : exec i s = .next t) :
    ∃ f, Meaning (opOf i) (placeOf i) f ∧ t = f s := by
  cases ha : i.availableIn s.cfg.family with
  | true =>
    obtain ⟨f, hf, heq⟩ := exec_eq_meaning i
    rw [heq s ha] at h
    cases h
    exact ⟨f, hf, rfl⟩
  | false =>
    obtain ⟨r, hr⟩ := exec_unavailable ha
    rw [hr s rfl] at h
    cases h

end Sys2Proof.Machine
end

section
/-! What every instruction may change: the flags, A, X and the PC, SP, and the state that is no register. -/

namespace Sys2Proof.Machine

/-! ### Flags (R47) -/

/-- Whether the flags went from one value to another as a row of the table says. -/
def FlagRow.Allows (row : FlagRow) (before after : CC) : Prop :=
  row.h.Allows before.h after.h ∧ row.i.Allows before.i after.i ∧ row.n.Allows before.n after.n ∧
    row.z.Allows before.z after.z ∧ row.c.Allows before.c after.c

theorem OperandOp.flags {op : Op} {go : Byte → State → State} (hop : OperandOp op go) (v : Byte) (s : State) :
    (flagRow op).Allows s.cc (go v s).cc := by
  cases hop with
  | adc | add => exact ⟨trivial, rfl, trivial, trivial, trivial⟩
  | sub | sbc | cmp | cpx => exact ⟨rfl, rfl, trivial, trivial, trivial⟩
  | and | bit | eor | ora | lda | ldx | tst => exact ⟨rfl, rfl, trivial, trivial, rfl⟩

theorem ModifyOp.flags {op : Op} {f : Byte → CC → Byte × CC} (hop : ModifyOp op f) (v : Byte) (cc : CC) :
    (flagRow op).Allows cc (f v cc).2 := by
  cases hop with
  | neg | asr | lsl | rol | ror => exact ⟨rfl, rfl, trivial, trivial, trivial⟩
  | com => exact ⟨rfl, rfl, trivial, trivial, rfl⟩
  | lsr => exact ⟨rfl, rfl, rfl, trivial, trivial⟩
  | dec | inc => exact ⟨rfl, rfl, trivial, trivial, rfl⟩
  | clr => exact ⟨rfl, rfl, rfl, rfl, rfl⟩

theorem BranchOp.flags {op : Op} {cond : State → Bool} (hop : BranchOp op cond) (cc : CC) :
    (flagRow op).Allows cc cc := by
  cases hop <;> exact ⟨rfl, rfl, rfl, rfl, rfl⟩

theorem rmwMem_cc (mode : Mode) (f : Byte → CC → Byte × CC) (s : State) :
    (rmwMem mode f s).cc = (f (readByte s (ea mode s)) s.cc).2 := by
  simp [rmwMem]

theorem branchOnBit_cc (n : BitVec 3) (d r : Byte) (want : Bool) (s : State) :
    (branchOnBit n d r want s).cc = { s.cc with c := (readByte s (ea (.dir d) s)).getLsbD n.toNat } := by
  simp [branchOnBit]

theorem Meaning.flags {op : Op} {p : Place} {f : State → State} (hf : Meaning op p f) (s : State) :
    (flagRow op).Allows s.cc (f s).cc := by
  cases hf with
  | immediate hop v => exact hop.flags v s
  | operand hop mode =>
    have h := hop.flags (readByte s (ea mode s)) (afterRead s (ea mode s))
    rwa [afterRead_cc] at h
  | modifyA hop => exact hop.flags s.a s.cc
  | modifyX hop => exact hop.flags s.x s.cc
  | modifyMem hop mode => rw [rmwMem_cc]; exact hop.flags _ s.cc
  | branch hop r => rw [branchIf_cc]; exact hop.flags s.cc
  | branchIfSet | branchIfClear => rw [branchOnBit_cc]; exact ⟨rfl, rfl, rfl, rfl, trivial⟩
  | setBit | clearBit => rw [modifyBit_cc]; exact ⟨rfl, rfl, rfl, rfl, rfl⟩
  | jumpSub | branchSub => rw [callTo_cc]; exact ⟨rfl, rfl, rfl, rfl, rfl⟩
  | rts => rw [pullPc_cc]; exact ⟨rfl, rfl, rfl, rfl, rfl⟩
  | swi => rw [takeException_cc]; exact ⟨rfl, rfl, rfl, rfl, rfl⟩
  | rti => exact ⟨trivial, trivial, trivial, trivial, trivial⟩
  | testRegA | testRegX | storeA | storeX => exact ⟨rfl, rfl, trivial, trivial, rfl⟩
  | jump | tax | txa | rsp | nop | clc | sec | cli | sei | stop | wait => exact ⟨rfl, rfl, rfl, rfl, rfl⟩

/-- Settles O50: the flags of each shape of instruction, row by row of the table. -/
theorem flagTable : Obligations.FlagTable := by
  intro i s t h
  obtain ⟨f, hf, rfl⟩ := exec_next h
  exact hf.flags s

/-! ### A, X and the PC (R21, R22, R26) -/

theorem OperandOp.keeps_pc {op : Op} {go : Byte → State → State} (hop : OperandOp op go) (v : Byte) (s : State) :
    (go v s).pc = s.pc := by
  cases hop <;> rfl

/-- The instructions that write A whatever their operand is (R21). -/
def aWriters : List Op := [.adc, .add, .and, .eor, .ora, .sbc, .sub, .lda, .txa, .rti]

theorem writesA_iff (i : Instr) :
    writesA i = true ↔ opOf i ∈ aWriters ∨ (modifies (opOf i) = true ∧ placeOf i = .regA) := by
  unfold writesA
  cases opOf i <;> simp [aWriters, modifies]

theorem writesX_iff (i : Instr) :
    writesX i = true ↔ opOf i ∈ [.ldx, .tax, .rti] ∨ (modifies (opOf i) = true ∧ placeOf i = .regX) := by
  unfold writesX
  cases opOf i <;> simp [modifies]

theorem ModifyOp.modifies {op : Op} {f : Byte → CC → Byte × CC} (hop : ModifyOp op f) : modifies op = true := by
  cases hop <;> rfl

theorem OperandOp.keeps_a {op : Op} {go : Byte → State → State} (hop : OperandOp op go) :
    op ∈ aWriters ∨ ∀ v s, (go v s).a = s.a := by
  cases hop with
  | adc | add | and | eor | ora | sbc | sub | lda => exact .inl (by simp [aWriters])
  | ldx | cmp | bit | cpx | tst => exact .inr fun _ _ => rfl

theorem OperandOp.keeps_x {op : Op} {go : Byte → State → State} (hop : OperandOp op go) :
    op = .ldx ∨ ∀ v s, (go v s).x = s.x := by
  cases hop with
  | ldx => exact .inl rfl
  | adc | add | and | eor | ora | sbc | sub | lda | cmp | bit | cpx | tst => exact .inr fun _ _ => rfl

/-- Whatever an instruction does, it writes A only if it is one that may. -/
theorem Meaning.keeps_a {op : Op} {p : Place} {f : State → State} (hf : Meaning op p f) :
    (op ∈ aWriters ∨ (modifies op = true ∧ p = .regA)) ∨ ∀ s, (f s).a = s.a := by
  cases hf with
  | immediate hop v => exact hop.keeps_a.imp .inl fun h s => h v s
  | operand hop mode => exact hop.keeps_a.imp .inl fun h s => by rw [withOperand_eq, h, afterRead_a]
  | modifyA hop => exact .inl (.inr ⟨hop.modifies, rfl⟩)
  | txa | rti => exact .inl (.inl (by simp [aWriters]))
  | modifyMem hop mode => exact .inr fun s => rmwMem_a _ _ s
  | storeA mode => exact .inr fun s => storeByte_a _ _ s
  | storeX mode => exact .inr fun s => storeByte_a _ _ s
  | setBit | clearBit => exact .inr fun s => modifyBit_a _ _ s
  | branchIfSet | branchIfClear => exact .inr fun s => branchOnBit_a _ _ _ _ s
  | branch hop r => exact .inr fun s => branchIf_a _ _ s
  | jumpSub | branchSub => exact .inr fun s => callTo_a _ s
  | rts => exact .inr pullPc_a
  | swi => exact .inr fun s => takeException_a _ s
  | modifyX | testRegA | testRegX | jump | stop | wait | tax | rsp | nop | clc | sec | cli | sei =>
    exact .inr fun _ => rfl

theorem Meaning.keeps_x {op : Op} {p : Place} {f : State → State} (hf : Meaning op p f) :
    (op ∈ [.ldx, .tax, .rti] ∨ (modifies op = true ∧ p = .regX)) ∨ ∀ s, (f s).x = s.x := by
  cases hf with
  | immediate hop v => exact hop.keeps_x.imp (fun e => .inl (by simp [e])) fun h s => h v s
  | operand hop mode =>
    exact hop.keeps_x.imp (fun e => .inl (by simp [e])) fun h s => by rw [withOperand_eq, h, afterRead_x]
  | modifyX hop => exact .inl (.inr ⟨hop.modifies, rfl⟩)
  | tax | rti => exact .inl (.inl (by simp))
  | modifyMem hop mode => exact .inr fun s => rmwMem_x _ _ s
  | storeA mode => exact .inr fun s => storeByte_x _ _ s
  | storeX mode => exact .inr fun s => storeByte_x _ _ s
  | setBit | clearBit => exact .inr fun s => modifyBit_x _ _ s
  | branchIfSet | branchIfClear => exact .inr fun s => branchOnBit_x _ _ _ _ s
  | branch hop r => exact .inr fun s => branchIf_x _ _ s
  | jumpSub | branchSub => exact .inr fun s => callTo_x _ s
  | rts => exact .inr pullPc_x
  | swi => exact .inr fun s => takeException_x _ s
  | modifyA | testRegA | testRegX | jump | stop | wait | txa | rsp | nop | clc | sec | cli | sei =>
    exact .inr fun _ => rfl

theorem BranchOp.transfersControl {op : Op} {cond : State → Bool} (hop : BranchOp op cond) :
    transfersControl op = true := by
  cases hop <;> rfl

theorem Meaning.keeps_pc {op : Op} {p : Place} {f : State → State} (hf : Meaning op p f) :
    transfersControl op = true ∨ ∀ s, (f s).pc = s.pc := by
  cases hf with
  | branch hop r => exact .inl hop.transfersControl
  | branchIfSet | branchIfClear | jump | jumpSub | branchSub | rts | rti | swi => exact .inl rfl
  | immediate hop v => exact .inr fun s => hop.keeps_pc v s
  | operand hop mode => exact .inr fun s => by rw [withOperand_eq, hop.keeps_pc, afterRead_pc]
  | modifyMem hop mode => exact .inr fun s => rmwMem_pc _ _ s
  | storeA mode => exact .inr fun s => storeByte_pc _ _ s
  | storeX mode => exact .inr fun s => storeByte_pc _ _ s
  | setBit | clearBit => exact .inr fun s => modifyBit_pc _ _ s
  | modifyA | modifyX | testRegA | testRegX | stop | wait | tax | txa | rsp | nop | clc | sec | cli | sei =>
    exact .inr fun _ => rfl

/-- Settles O51: an instruction either may write the register, or its meaning leaves it alone. -/
theorem registerWriters : Obligations.RegisterWriters := by
  intro i s t h
  obtain ⟨f, hf, rfl⟩ := exec_next h
  refine ⟨fun hw => ?_, fun hw => ?_, fun hw => ?_⟩
  · exact hf.keeps_a.elim (fun ha => by simp [(writesA_iff i).2 ha] at hw) fun ha => ha s
  · exact hf.keeps_x.elim (fun hx => by simp [(writesX_iff i).2 hx] at hw) fun hx => hx s
  · exact hf.keeps_pc.elim (fun hpc => by simp [hpc] at hw) fun hpc => hpc s

/-! ### SP (R37) -/

theorem OperandOp.keeps_sp {op : Op} {go : Byte → State → State} (hop : OperandOp op go) (v : Byte) (s : State) :
    (go v s).sp = s.sp := by
  cases hop <;> rfl

/-- What the table of R37 says of an instruction, by the instruction alone. -/
def spAfterOp (op : Op) (c : Config) (sp : Addr) : Addr :=
  match op with
  | .bsr | .jsr => spBelow c 2 sp
  | .swi => spBelow c 5 sp
  | .rts => spAbove c 2 sp
  | .rti => spAbove c 5 sp
  | .rsp => stackTop
  | _ => sp

theorem spAfter_eq (i : Instr) (s : State) : spAfter i s = spAfterOp (opOf i) s.cfg s.sp := rfl

theorem Meaning.sp {op : Op} {p : Place} {f : State → State} (hf : Meaning op p f) (s : State) :
    (f s).sp = spAfterOp op s.cfg s.sp := by
  cases hf with
  | immediate hop v => rw [hop.keeps_sp]; cases hop <;> rfl
  | operand hop mode => rw [withOperand_eq, hop.keeps_sp, afterRead_sp]; cases hop <;> rfl
  | modifyA hop | modifyX hop => cases hop <;> rfl
  | modifyMem hop mode => rw [rmwMem_sp]; cases hop <;> rfl
  | branch hop r => rw [branchIf_sp]; cases hop <;> rfl
  | storeA | storeX => exact storeByte_sp _ _ s
  | setBit | clearBit => exact modifyBit_sp _ _ s
  | branchIfSet | branchIfClear => exact branchOnBit_sp _ _ _ _ s
  | jumpSub | branchSub => exact callTo_sp _ s
  | rts => exact pullPc_sp s
  | rti => exact returnFromException_sp s
  | swi => exact takeException_sp _ s
  | testRegA | testRegX | jump | stop | wait | tax | txa | rsp | nop | clc | sec | cli | sei => rfl

theorem interruptEntry_sp (src : Source) (s : State) : (interruptEntry src s).sp = spBelow s.cfg 5 s.sp := by
  cases src <;> simp [interruptEntry, spBelow]

/-- Settles O52: instruction by instruction, the entry's frame, and reset's constant. -/
theorem stackPointerChanges : Obligations.StackPointerChanges := by
  refine ⟨fun i s t h => ?_, interruptEntry_sp, takeReset_sp⟩
  obtain ⟨f, hf, rfl⟩ := exec_next h
  rw [hf.sp, spAfter_eq]

end Sys2Proof.Machine
end

section
/-! The state that is no register: which instructions change it, and which parts of it no instruction reads. -/

namespace Sys2Proof.Machine

/-! ### The frame of the hidden state -/

/-- The member, the request latch, the pin, the inputs to come, the cycle count, the timer and the run state. -/
def State.hidden (s : State) : Config × Bool × Bool × List Input × Nat × Timer × RunState :=
  (s.cfg, s.pendExt, s.intPin, s.inputs, s.cycles, s.timer, s.runState)

theorem fields_of_hidden_eq {t : State} {c : Config} {pend pin : Bool} {ins : List Input} {k : Nat} {tm : Timer}
    {run : RunState} (h : t.hidden = (c, pend, pin, ins, k, tm, run)) :
    t.cfg = c ∧ t.pendExt = pend ∧ t.intPin = pin ∧ t.inputs = ins ∧ t.cycles = k ∧ t.timer = tm ∧
      t.runState = run := by
  simpa [State.hidden] using h

@[simp] theorem afterRead_hidden (s : State) (addr : Addr) : (afterRead s addr).hidden = s.hidden := by
  simp [State.hidden]
@[simp] theorem pullPc_hidden (s : State) : (pullPc s).hidden = s.hidden := by simp [State.hidden]
@[simp] theorem callTo_hidden (target : Addr) (s : State) : (callTo target s).hidden = s.hidden := by simp [State.hidden]
@[simp] theorem takeException_hidden (vec : Addr) (s : State) : (takeException vec s).hidden = s.hidden := by
  simp [State.hidden]
@[simp] theorem returnFromException_hidden (s : State) : (returnFromException s).hidden = s.hidden := by
  simp [State.hidden]
@[simp] theorem rmwMem_hidden (mode : Mode) (f : Byte → CC → Byte × CC) (s : State) :
    (rmwMem mode f s).hidden = s.hidden := by simp [State.hidden]
@[simp] theorem modifyBit_hidden (d : Byte) (change : Byte → Byte) (s : State) :
    (modifyBit d change s).hidden = s.hidden := by simp [State.hidden]
@[simp] theorem storeByte_hidden (mode : Mode) (v : Byte) (s : State) : (storeByte mode v s).hidden = s.hidden := by
  simp [State.hidden]
@[simp] theorem branchIf_hidden (cond : Bool) (r : Byte) (s : State) : (branchIf cond r s).hidden = s.hidden := by
  simp [State.hidden]
@[simp] theorem branchOnBit_hidden (n : BitVec 3) (d r : Byte) (want : Bool) (s : State) :
    (branchOnBit n d r want s).hidden = s.hidden := by simp [State.hidden]

theorem OperandOp.keeps_hidden {op : Op} {go : Byte → State → State} (hop : OperandOp op go) (v : Byte) (s : State) :
    (go v s).hidden = s.hidden := by
  cases hop <;> rfl

/-- Only STOP and WAIT reach the hidden state: STOP the timer and the run state, WAIT the run state. -/
theorem Meaning.keeps_hidden {op : Op} {p : Place} {f : State → State} (hf : Meaning op p f) :
    (op = .stop ∧ ∀ s, (f s).hidden =
      (s.cfg, s.pendExt, s.intPin, s.inputs, s.cycles, timerStopEffects s.timer, RunState.stopped)) ∨
    (op = .wait ∧ ∀ s, (f s).hidden =
      (s.cfg, s.pendExt, s.intPin, s.inputs, s.cycles, s.timer, RunState.waiting)) ∨
    ∀ s, (f s).hidden = s.hidden := by
  cases hf with
  | stop => exact .inl ⟨rfl, fun _ => rfl⟩
  | wait => exact .inr (.inl ⟨rfl, fun _ => rfl⟩)
  | immediate hop v => exact .inr (.inr fun s => hop.keeps_hidden v s)
  | operand hop mode => exact .inr (.inr fun s => by rw [withOperand_eq, hop.keeps_hidden, afterRead_hidden])
  | modifyMem | storeA | storeX | setBit | clearBit | branchIfSet | branchIfClear | branch | jumpSub | branchSub | rts
  | rti | swi => exact .inr (.inr fun s => by simp)
  | modifyA | modifyX | testRegA | testRegX | jump | tax | txa | rsp | nop | clc | sec | cli | sei =>
    exact .inr (.inr fun _ => rfl)

/-! ### Free values are drawn, never given back -/

theorem draws_le_afterRead (s : State) (addr : Addr) : s.draws ≤ (afterRead s addr).draws := by
  rcases afterRead_cases s addr with e | e <;> simp [e]

theorem draws_le_pull (s : State) : s.draws ≤ (pull s).2.draws := by
  simpa [pull] using draws_le_afterRead (s.setSp (spUp s.cfg s.sp)) (spUp s.cfg s.sp)

theorem draws_le_pullPc (s : State) : s.draws ≤ (pullPc s).draws :=
  (draws_le_pull s).trans (draws_le_pull (pull s).2)

theorem draws_le_loadVector (vec : Addr) (s : State) : s.draws ≤ (loadVector vec s).draws :=
  (draws_le_afterRead s vec).trans (draws_le_afterRead (afterRead s vec) (vec + 1))

theorem draws_le_takeException (vec : Addr) (s : State) : s.draws ≤ (takeException vec s).draws := by
  simpa [takeException] using draws_le_loadVector vec ((pushFrame s).setCc { s.cc with i := true })

theorem draws_le_returnFromException (s : State) : s.draws ≤ (returnFromException s).draws := by
  refine le_trans ?_ (draws_le_pullPc _)
  refine le_trans ?_ (draws_le_pull _)
  refine le_trans ?_ (draws_le_pull _)
  exact draws_le_pull s

theorem draws_le_rmwMem (mode : Mode) (f : Byte → CC → Byte × CC) (s : State) : s.draws ≤ (rmwMem mode f s).draws := by
  simpa [rmwMem] using draws_le_afterRead s (ea mode s)

theorem draws_le_modifyBit (d : Byte) (change : Byte → Byte) (s : State) : s.draws ≤ (modifyBit d change s).draws := by
  simpa [modifyBit] using draws_le_afterRead s (ea (.dir d) s)

theorem draws_le_branchOnBit (n : BitVec 3) (d r : Byte) (want : Bool) (s : State) :
    s.draws ≤ (branchOnBit n d r want s).draws := by
  simpa [branchOnBit] using draws_le_afterRead s (ea (.dir d) s)

theorem OperandOp.keeps_draws {op : Op} {go : Byte → State → State} (hop : OperandOp op go) (v : Byte) (s : State) :
    (go v s).draws = s.draws := by
  cases hop <;> rfl

theorem Meaning.draws_le {op : Op} {p : Place} {f : State → State} (hf : Meaning op p f) (s : State) :
    s.draws ≤ (f s).draws := by
  cases hf with
  | immediate hop v => exact (hop.keeps_draws v s).ge
  | operand hop mode => rw [withOperand_eq, hop.keeps_draws]; exact draws_le_afterRead s _
  | modifyMem hop mode => exact draws_le_rmwMem _ _ s
  | setBit | clearBit => exact draws_le_modifyBit _ _ s
  | branchIfSet | branchIfClear => exact draws_le_branchOnBit _ _ _ _ s
  | rts => exact draws_le_pullPc s
  | rti => exact draws_le_returnFromException s
  | swi => exact draws_le_takeException _ s
  | storeA | storeX => exact (storeByte_draws _ _ s).ge
  | branch => exact (branchIf_draws _ _ s).ge
  | jumpSub | branchSub => exact (callTo_draws _ s).ge
  | modifyA | modifyX | testRegA | testRegX | jump | stop | wait | tax | txa | rsp | nop | clc | sec | cli | sei =>
    exact Nat.le_refl _

theorem eq_stop_of_opOf {i : Instr} (h : opOf i = .stop) : i = .stop := by
  cases i with
  | stop => rfl
  | _ => cases h

theorem eq_wait_of_opOf {i : Instr} (h : opOf i = .wait) : i = .wait := by
  cases i with
  | wait => rfl
  | _ => cases h

/-- Settles O54: STOP and WAIT by their own meanings, every other instruction because it keeps the hidden state whole. -/
theorem hiddenStateFrame : Obligations.HiddenStateFrame := by
  intro i s t h
  obtain ⟨f, hf, rfl⟩ := exec_next h
  have hdraws := hf.draws_le s
  obtain ⟨hop, e⟩ | ⟨hop, e⟩ | e := hf.keeps_hidden
  · obtain ⟨hcfg, hpend, hpin, hinputs, hcycles, -, -⟩ := fields_of_hidden_eq (e s)
    have hi := eq_stop_of_opOf hop
    exact ⟨hcfg, hpend, hpin, hinputs, hcycles, fun h => absurd hi h, fun h => absurd hi h, hdraws⟩
  · obtain ⟨hcfg, hpend, hpin, hinputs, hcycles, htimer, -⟩ := fields_of_hidden_eq (e s)
    exact ⟨hcfg, hpend, hpin, hinputs, hcycles, fun _ => htimer, fun _ h => absurd (eq_wait_of_opOf hop) h, hdraws⟩
  · obtain ⟨hcfg, hpend, hpin, hinputs, hcycles, htimer, hrun⟩ := fields_of_hidden_eq (e s)
    exact ⟨hcfg, hpend, hpin, hinputs, hcycles, fun _ => htimer, fun _ _ => hrun, hdraws⟩

/-! ### What no instruction reads -/

/-- The state with another request latch, other inputs to come and another cycle count. -/
def State.relabel (p : Bool) (ins : List Input) (k : Nat) (s : State) : State :=
  ((s.setPendExt p).setInputs ins).setCycles k

/-- A function on the state that reads and writes neither the request latch, the inputs to come nor the cycle count. -/
def Blind (f : State → State) : Prop := ∀ p ins k s, f (State.relabel p ins k s) = State.relabel p ins k (f s)

section
variable (p : Bool) (ins : List Input) (k : Nat) (s : State)

@[simp] theorem relabel_cfg : (s.relabel p ins k).cfg = s.cfg := rfl
@[simp] theorem relabel_a : (s.relabel p ins k).a = s.a := rfl
@[simp] theorem relabel_x : (s.relabel p ins k).x = s.x := rfl
@[simp] theorem relabel_pc : (s.relabel p ins k).pc = s.pc := rfl
@[simp] theorem relabel_sp : (s.relabel p ins k).sp = s.sp := rfl
@[simp] theorem relabel_cc : (s.relabel p ins k).cc = s.cc := rfl
@[simp] theorem relabel_setA (v : Byte) : (s.relabel p ins k).setA v = (s.setA v).relabel p ins k := rfl
@[simp] theorem relabel_setX (v : Byte) : (s.relabel p ins k).setX v = (s.setX v).relabel p ins k := rfl
@[simp] theorem relabel_setPc (v : Addr) : (s.relabel p ins k).setPc v = (s.setPc v).relabel p ins k := rfl
@[simp] theorem relabel_setSp (v : Addr) : (s.relabel p ins k).setSp v = (s.setSp v).relabel p ins k := rfl
@[simp] theorem relabel_setCc (v : CC) : (s.relabel p ins k).setCc v = (s.setCc v).relabel p ins k := rfl
@[simp] theorem ea_relabel (mode : Mode) : ea mode (s.relabel p ins k) = ea mode s := by cases mode <;> rfl
@[simp] theorem relTarget_relabel (r : Byte) : relTarget r (s.relabel p ins k) = relTarget r s := rfl
@[simp] theorem readByte_relabel (addr : Addr) : readByte (s.relabel p ins k) addr = readByte s addr := rfl

@[simp] theorem afterRead_relabel (addr : Addr) :
    afterRead (s.relabel p ins k) addr = (afterRead s addr).relabel p ins k := by
  have hk : kindAt (s.relabel p ins k) addr = kindAt s addr := rfl
  unfold afterRead
  rw [hk]
  cases kindAt s addr <;> rfl

@[simp] theorem memWrite_relabel (addr : Addr) (v : Byte) :
    memWrite (s.relabel p ins k) addr v = (memWrite s addr v).relabel p ins k := by
  have hk : kindAt (s.relabel p ins k) addr = kindAt s addr := rfl
  unfold memWrite
  rw [hk]
  cases kindAt s addr <;> rfl

@[simp] theorem push_relabel (v : Byte) : push v (s.relabel p ins k) = (push v s).relabel p ins k := by simp [push]
@[simp] theorem pull_relabel : pull (s.relabel p ins k) = ((pull s).1, (pull s).2.relabel p ins k) := by
  simp [pull, memRead]
@[simp] theorem pushPc_relabel : pushPc (s.relabel p ins k) = (pushPc s).relabel p ins k := by simp [pushPc]
@[simp] theorem loadVector_relabel (vec : Addr) :
    loadVector vec (s.relabel p ins k) = (loadVector vec s).relabel p ins k := by simp [loadVector]
@[simp] theorem pushFrame_relabel : pushFrame (s.relabel p ins k) = (pushFrame s).relabel p ins k := by simp [pushFrame]

end

theorem OperandOp.blind {op : Op} {go : Byte → State → State} (hop : OperandOp op go) (v : Byte) : Blind (go v) := by
  cases hop <;> exact fun _ _ _ _ => rfl

theorem BranchOp.relabel {op : Op} {cond : State → Bool} (hop : BranchOp op cond) (p : Bool) (ins : List Input) (k : Nat)
    (s : State) : cond (s.relabel p ins k) = cond s := by
  cases hop <;> rfl

theorem blind_pullPc : Blind pullPc := fun p ins k s => by simp [pullPc]

theorem blind_branchIf (cond : Bool) (r : Byte) : Blind (branchIf cond r) := fun p ins k s => by
  cases cond <;> rfl

theorem Meaning.blind {op : Op} {place : Place} {f : State → State} (hf : Meaning op place f) : Blind f := by
  intro p ins k s
  cases hf with
  | immediate hop v => exact hop.blind v p ins k s
  | operand hop mode =>
    rw [withOperand_eq, withOperand_eq, ea_relabel, readByte_relabel, afterRead_relabel, hop.blind]
  | branch hop r =>
    show branchIf _ r (s.relabel p ins k) = _
    rw [hop.relabel, blind_branchIf]
  | modifyMem | setBit | clearBit | storeA | storeX => simp [rmwMem, modifyBit, storeByte]
  | branchIfSet | branchIfClear => simp [branchOnBit, blind_branchIf _ _ p ins k _]
  | jumpSub | branchSub => simp [callTo]
  | rts => exact blind_pullPc p ins k s
  | rti => simp [returnFromException, blind_pullPc p ins k _]
  | swi => simp [takeException]
  | modifyA | modifyX | testRegA | testRegX | stop | wait | tax | txa | rsp | nop | clc | sec | cli | sei => rfl
  | jump mode => simp

/-- Settles O55: on a member that has the instruction its meaning is blind to these fields, and on one that does not the
answer is the same fault. -/
theorem latchAndCyclesUnreadable : Obligations.LatchAndCyclesUnreadable := by
  intro i s p ins k
  show exec i (s.relabel p ins k) = onNext (State.relabel p ins k) (exec i s)
  cases ha : i.availableIn s.cfg.family with
  | true =>
    obtain ⟨f, hf, heq⟩ := exec_eq_meaning i
    rw [heq s ha, heq (s.relabel p ins k) ha, hf.blind]
    rfl
  | false =>
    obtain ⟨r, hr⟩ := exec_unavailable ha
    rw [hr s rfl, hr (s.relabel p ins k) rfl]
    rfl

end Sys2Proof.Machine
end

section
/-! The invariant of the machine: the registers and the memory stay in range through every operation, and the run state, the mask
and the timer stay in step at every boundary. -/

namespace Sys2Proof.Machine

/-! ### The registers and the memory in range -/

/-- The part of the invariant every operation keeps, whatever the processor is doing. -/
structure Bounded (s : State) : Prop where
  config : s.cfg.wf
  pcInRange : s.pc.toNat < 2 ^ s.cfg.addrBits
  spInRange : SpInRange s.cfg s.sp
  memCanonical : s.mem.wf
  memInSpace : s.mem.within (2 ^ s.cfg.addrBits)

theorem Inv.bounded {s : State} (h : Inv s) : Bounded s :=
  ⟨h.config, h.pcInRange, h.sp, h.memCanonical, h.memInSpace⟩

/-- A running processor needs nothing more. -/
theorem Bounded.inv_of_running {s : State} (h : Bounded s) (hr : s.runState = .running) : Inv s where
  config := h.config
  pcInRange := h.pcInRange
  spInRange := h.spInRange
  memCanonical := h.memCanonical
  memInSpace := h.memInSpace
  hmosRuns _ := hr
  lowPowerUnmasked hne := absurd hr hne
  stoppedNoTimer hs := by rw [hr] at hs; cases hs

/-- Being in range depends on the member, the PC, SP and the memory alone. -/
theorem Bounded.congr {s t : State} (h : Bounded s) (hcfg : t.cfg = s.cfg) (hpc : t.pc = s.pc) (hsp : t.sp = s.sp)
    (hmem : t.mem = s.mem) : Bounded t := by
  obtain ⟨hc, hp, hs, hw, hm⟩ := h
  constructor <;> simp only [hcfg, hpc, hsp, hmem] <;> assumption

theorem Bounded.setPc {s : State} (h : Bounded s) {v : Addr} (hv : v.toNat < 2 ^ s.cfg.addrBits) : Bounded (s.setPc v) :=
  ⟨h.config, hv, h.spInRange, h.memCanonical, h.memInSpace⟩

theorem Bounded.setPc_trunc {s : State} (h : Bounded s) (v : Addr) : Bounded (s.setPc (trunc s.cfg v)) :=
  h.setPc (trunc_lt (addrBits_le h.config) v)

theorem Bounded.setSp {s : State} (h : Bounded s) {v : Addr} (hv : SpInRange s.cfg v) : Bounded (s.setSp v) :=
  ⟨h.config, h.pcInRange, hv, h.memCanonical, h.memInSpace⟩

theorem Bounded.setA {s : State} (h : Bounded s) (v : Byte) : Bounded (s.setA v) := h.congr rfl rfl rfl rfl

theorem Bounded.setX {s : State} (h : Bounded s) (v : Byte) : Bounded (s.setX v) := h.congr rfl rfl rfl rfl

theorem Bounded.setCc {s : State} (h : Bounded s) (v : CC) : Bounded (s.setCc v) := h.congr rfl rfl rfl rfl

theorem Bounded.setPendExt {s : State} (h : Bounded s) (v : Bool) : Bounded (s.setPendExt v) := h.congr rfl rfl rfl rfl

theorem Bounded.setRunState {s : State} (h : Bounded s) (v : RunState) : Bounded (s.setRunState v) :=
  h.congr rfl rfl rfl rfl

theorem Bounded.afterRead {s : State} (h : Bounded s) (addr : Addr) : Bounded (afterRead s addr) :=
  h.congr (afterRead_cfg ..) (afterRead_pc ..) (afterRead_sp ..) (afterRead_mem ..)

theorem Bounded.memWrite {s : State} (h : Bounded s) (addr : Addr) (v : Byte) : Bounded (memWrite s addr v) where
  config := by rw [memWrite_cfg]; exact h.config
  pcInRange := by rw [memWrite_cfg, memWrite_pc]; exact h.pcInRange
  spInRange := by rw [memWrite_cfg, memWrite_sp]; exact h.spInRange
  memCanonical := memWrite_wf h.memCanonical addr v
  memInSpace := by rw [memWrite_cfg]; exact memWrite_within (addrBits_le h.config) h.memInSpace addr v

theorem Bounded.fetch8 {s : State} (h : Bounded s) : Bounded (fetch8 s).2 := by
  have h' := (h.afterRead s.pc).setPc_trunc (s.pc + 1)
  rwa [afterRead_cfg] at h'

theorem Bounded.fetchBytes {s : State} (h : Bounded s) (k : Nat) : Bounded (fetchBytes k s).2 := by
  induction k generalizing s with
  | zero => exact h
  | succ k ih => exact ih h.fetch8

theorem Bounded.fetchInstr {s : State} (h : Bounded s) : Bounded (fetchInstr s).2 := h.fetch8.fetchBytes _

theorem Bounded.push {s : State} (h : Bounded s) (v : Byte) : Bounded (push v s) := by
  refine (h.memWrite s.sp v).setSp ?_
  rw [memWrite_cfg]
  exact h.spInRange.spDown h.config

theorem Bounded.pull {s : State} (h : Bounded s) : Bounded (pull s).2 :=
  (h.setSp (h.spInRange.spUp h.config)).afterRead _

theorem Bounded.pushPc {s : State} (h : Bounded s) : Bounded (pushPc s) := (h.push _).push _

theorem Bounded.pullPc {s : State} (h : Bounded s) : Bounded (pullPc s) := by
  have h' := h.pull.pull.setPc_trunc (wordOf (Machine.pull s).1 (Machine.pull (Machine.pull s).2).1)
  rwa [pull_cfg, pull_cfg] at h'

theorem Bounded.callTo {s : State} (h : Bounded s) {target : Addr} (ht : target.toNat < 2 ^ s.cfg.addrBits) :
    Bounded (callTo target s) := by
  refine h.pushPc.setPc ?_
  rwa [pushPc_cfg]

theorem Bounded.loadVector {s : State} (h : Bounded s) (vec : Addr) : Bounded (loadVector vec s) := by
  have h' := ((h.afterRead vec).afterRead (vec + 1)).setPc_trunc
    (wordOf (readByte s vec) (readByte (Machine.afterRead s vec) (vec + 1)))
  rwa [afterRead_cfg, afterRead_cfg] at h'

theorem Bounded.pushFrame {s : State} (h : Bounded s) : Bounded (pushFrame s) := ((h.pushPc.push _).push _).push _

theorem Bounded.takeException {s : State} (h : Bounded s) (vec : Addr) : Bounded (takeException vec s) :=
  (h.pushFrame.setCc _).loadVector vec

theorem Bounded.returnFromException {s : State} (h : Bounded s) : Bounded (returnFromException s) :=
  ((((h.pull.setCc _).pull.setA _).pull).setX _).pullPc

theorem Bounded.rmwMem {s : State} (h : Bounded s) (mode : Mode) (f : Byte → CC → Byte × CC) :
    Bounded (rmwMem mode f s) := ((h.afterRead _).memWrite _ _).setCc _

theorem Bounded.modifyBit {s : State} (h : Bounded s) (d : Byte) (change : Byte → Byte) :
    Bounded (modifyBit d change s) := (h.afterRead _).memWrite _ _

theorem Bounded.storeByte {s : State} (h : Bounded s) (mode : Mode) (v : Byte) : Bounded (storeByte mode v s) :=
  (h.memWrite _ _).setCc _

theorem Bounded.branchIf {s : State} (h : Bounded s) (cond : Bool) (r : Byte) : Bounded (branchIf cond r s) := by
  cases cond with
  | true => exact h.setPc_trunc _
  | false => exact h

theorem Bounded.branchOnBit {s : State} (h : Bounded s) (n : BitVec 3) (d r : Byte) (want : Bool) :
    Bounded (branchOnBit n d r want s) := ((h.afterRead _).setCc _).branchIf _ _

/-- Every effective address is one of the member's. -/
theorem ea_lt {s : State} (hc : s.cfg.wf) (mode : Mode) : (ea mode s).toNat < 2 ^ s.cfg.addrBits := by
  have byte_lt (b : Byte) : (b.setWidth 16).toNat < 2 ^ s.cfg.addrBits := by
    have hP : 2 ^ 11 ≤ 2 ^ s.cfg.addrBits := Nat.pow_le_pow_right (by decide) hc.1
    rw [BitVec.toNat_setWidth_of_le (by decide)]
    omega
  cases mode with
  | dir d => exact byte_lt d
  | ix => exact byte_lt s.x
  | ext | ix1 | ix2 => exact trunc_lt (addrBits_le hc) _

theorem OperandOp.bounded {op : Op} {go : Byte → State → State} (hop : OperandOp op go) (v : Byte) {s : State}
    (h : Bounded s) : Bounded (go v s) := by
  cases hop <;> exact h.congr rfl rfl rfl rfl

theorem Meaning.bounded {op : Op} {p : Place} {f : State → State} (hf : Meaning op p f) {s : State} (h : Bounded s) :
    Bounded (f s) := by
  cases hf with
  | immediate hop v => exact hop.bounded v h
  | operand hop mode => exact hop.bounded _ (h.afterRead _)
  | modifyMem hop mode => exact h.rmwMem mode _
  | storeA mode => exact h.storeByte mode s.a
  | storeX mode => exact h.storeByte mode s.x
  | setBit n d => exact h.modifyBit d _
  | clearBit n d => exact h.modifyBit d _
  | branchIfSet n d r => exact h.branchOnBit n d r true
  | branchIfClear n d r => exact h.branchOnBit n d r false
  | branch hop r => exact h.branchIf _ r
  | jump mode => exact h.setPc (ea_lt h.config mode)
  | jumpSub mode => exact h.callTo (ea_lt h.config mode)
  | branchSub r => exact h.callTo (trunc_lt (addrBits_le h.config) _)
  | rts => exact h.pullPc
  | rti => exact h.returnFromException
  | swi => exact h.takeException _
  | rsp => exact h.setSp (spInRange_stackTop _)
  | modifyA | modifyX | testRegA | testRegX | stop | wait | tax | txa | nop | clc | sec | cli | sei =>
    exact h.congr rfl rfl rfl rfl

/-! ### The run state at the boundaries -/

/-- An instruction leaves the processor running, or in STOP or WAIT as the invariant wants them. -/
theorem Effect.lowPower {s t : State} (h : Effect s t) (hr : s.runState = .running) :
    t.runState = .running ∨
      (t.cfg.family = .cmos ∧ t.cc.i = false ∧ (t.runState = .stopped → pendTimer t = false)) := by
  cases h with
  | stop hcmos => exact .inr ⟨hcmos, rfl, fun _ => rfl⟩
  | wait hcmos => exact .inr ⟨hcmos, rfl, fun h => nomatch h⟩
  | operand hgo v => exact .inl (by cases hgo <;> exact hr)
  | memOperand hgo mode => exact .inl (by cases hgo <;> exact (afterRead_runState s _).trans hr)
  | store mode v => exact .inl ((storeByte_runState mode v s).trans hr)
  | rmwMem mode op => exact .inl ((rmwMem_runState mode op s).trans hr)
  | modifyBit d change => exact .inl ((modifyBit_runState d change s).trans hr)
  | branchOnBit n d r want => exact .inl ((branchOnBit_runState n d r want s).trans hr)
  | branch cond r => exact .inl ((branchIf_runState cond r s).trans hr)
  | call target => exact .inl ((callTo_runState target s).trans hr)
  | rts => exact .inl ((pullPc_runState s).trans hr)
  | rti => exact .inl ((returnFromException_runState s).trans hr)
  | swi => exact .inl ((takeException_runState _ s).trans hr)
  | rmwA | rmwX | jump | setCc | tax | txa | rsp | nop => exact .inl hr

/-- A completed instruction leaves the invariant behind. -/
theorem exec_inv {i : Instr} {s t : State} (hb : Bounded s) (hr : s.runState = .running) (h : exec i s = .next t) :
    Inv t := by
  obtain ⟨f, hf, rfl⟩ := exec_next h
  have hbt : Bounded (f s) := hf.bounded hb
  obtain hrun | ⟨hcmos, hi, htimer⟩ := (exec_effect h).lowPower hr
  · exact hbt.inv_of_running hrun
  · exact { hbt with
      spInRange := hbt.spInRange
      hmosRuns := fun hhmos => by rw [hcmos] at hhmos; cases hhmos
      lowPowerUnmasked := fun _ => hi
      stoppedNoTimer := htimer }

/-- Counting cycles touches nothing the invariant reads. -/
theorem Inv.addCycles {s : State} (h : Inv s) (count : Nat) : Inv (addCycles count s) := { h with }

/-- While STOPPED the inputs leave the timer alone. -/
theorem sampleInputs_timer {s : State} (h : s.runState = .stopped) : (sampleInputs s).timer = s.timer := by
  unfold sampleInputs
  split
  · rfl
  · simp [timerAfter, h]

/-- The inputs of a boundary move the latch, the pin and, unless STOPPED, the timer. -/
theorem Inv.sampleInputs {s : State} (h : Inv s) : Inv (sampleInputs s) := by
  have hb := h.bounded.congr (sampleInputs_cfg s) (sampleInputs_pc s) (sampleInputs_sp s) (sampleInputs_mem s)
  refine ⟨hb.config, hb.pcInRange, hb.spInRange, hb.memCanonical, hb.memInSpace, ?_, ?_, fun hs => ?_⟩
  · rw [sampleInputs_cfg, sampleInputs_runState]
    exact h.hmosRuns
  · rw [sampleInputs_runState, sampleInputs_cc]
    exact h.lowPowerUnmasked
  · rw [sampleInputs_runState] at hs
    rw [pendTimer, sampleInputs_timer hs]
    exact h.stoppedNoTimer hs

theorem Bounded.takeReset {s : State} (h : Bounded s) : Bounded (takeReset s) := by
  refine Bounded.loadVector ?_ _
  exact (h.setSp (spInRange_stackTop _)).congr rfl rfl rfl rfl

theorem Bounded.interruptEntry {s : State} (h : Bounded s) (src : Source) : Bounded (interruptEntry src s) := by
  cases src with
  | ext => exact ((h.takeException _).setPendExt false).setRunState .running
  | timer => exact (h.takeException _).setRunState .running

theorem resetStep_inv {s : State} (h : Bounded s) : Inv (resetStep s) :=
  (h.takeReset.inv_of_running (takeReset_runState s)).addCycles _

theorem interruptStep_inv {s : State} (h : Bounded s) (src : Source) : Inv (interruptStep src s) :=
  ((h.interruptEntry src).inv_of_running (interruptEntry_runState src s)).addCycles _

theorem runInstruction_inv {s t : State} (hb : Bounded s) (hr : s.runState = .running)
    (h : runInstruction s = .next t) : Inv t := by
  obtain ⟨i, rest, u, -, hu, rfl⟩ := runInstruction_next h
  exact (exec_inv hb.fetchInstr ((fetchInstr_runState s).trans hr) hu).addCycles _

/-- Only a running processor takes an instruction. -/
theorem running_of_chooseEvent {reset : Bool} {s : State} (h : chooseEvent reset s = .instruction) :
    s.runState = .running := by
  unfold chooseEvent at h
  split_ifs at h
  cases hr : s.runState with
  | running => rfl
  | stopped | waiting => rw [hr] at h; cases h

/-- Settles O47: the inputs keep the invariant, and then each event the boundary can choose. -/
theorem stepKeepsInvariant : Obligations.StepKeepsInvariant := by
  intro s t hinv h
  have hs := hinv.sampleInputs
  obtain ⟨-, rfl⟩ | ⟨src, -, rfl⟩ | ⟨hev, hrun⟩ | ⟨-, rfl⟩ := step_cases h
  · exact resetStep_inv hs.bounded
  · exact interruptStep_inv hs.bounded src
  · exact runInstruction_inv hs.bounded (running_of_chooseEvent hev) hrun
  · exact hs

/-! ### The state after reset -/

/-- Settles O46: SP is the top of the stack area, the memory lists nothing, and the processor runs. -/
theorem resetMeetsInvariant : Obligations.ResetMeetsInvariant :=
  Bounded.inv_of_running (s := State.reset)
    ⟨by decide, by decide, spInRange_stackTop _, ⟨List.Pairwise.nil, nofun⟩, nofun⟩ rfl

/-- Settles O45: an empty memory reads as zero, so the reset vector gives the PC zero. -/
theorem stateAfterReset : Obligations.StateAfterReset := by
  refine ⟨rfl, rfl, rfl, rfl, rfl, ?_⟩
  have unlisted (addr : Addr) : readByte State.reset addr = 0 := rfl
  rw [unlisted, unlisted]
  rfl

end Sys2Proof.Machine
end

section
/-! The fetch of an instruction that stands in memory: its bytes, the decoder's answer to them, and the step that runs it. -/

namespace Sys2Proof.Machine

/-! ### The decoder on the bytes of an instruction -/

/-- The opcodes of rows 0 and 1 carry the bit number in bits 3 to 1, and bit 0 tells the two instructions apart (R95). -/
theorem opcodeShape_bitOpcode (fam : Family) (n : BitVec 3) :
    opcodeShape fam (bitOpcode 0x00 n) = some (.two (.brset n)) ∧
    opcodeShape fam (bitOpcode 0x01 n) = some (.two (.brclr n)) ∧
    opcodeShape fam (bitOpcode 0x10 n) = some (.one (.bset n)) ∧
    opcodeShape fam (bitOpcode 0x11 n) = some (.one (.bclr n)) := by
  have values : n = 0 ∨ n = 1 ∨ n = 2 ∨ n = 3 ∨ n = 4 ∨ n = 5 ∨ n = 6 ∨ n = 7 := by
    revert n
    decide
  rcases values with rfl | rfl | rfl | rfl | rfl | rfl | rfl | rfl <;> exact ⟨rfl, rfl, rfl, rfl⟩

/-- A defined opcode followed by its operands decodes as its shape reads them. -/
theorem decode_cons {fam : Family} {op : Byte} {sh : Shape} (h : opcodeShape fam op = some sh) (bytes : List Byte) :
    decode fam (op :: bytes) = sh.read bytes := by
  simp only [decode, h]

theorem read_word (f : Addr → Instr) (w : Addr) : (Shape.word f).read [hiByte w, loByte w] = .ok (f w) [] := by
  simp [Shape.read]

/-- The bytes of a well-formed instruction decode to it. -/
theorem decode_encode {fam : Family} {i : Instr} (h : i.WellFormed fam) : decode fam (encode i) = .ok i [] := by
  obtain ⟨havail, hprimary⟩ := h
  cases i with
  | brset n d r => exact decode_cons (opcodeShape_bitOpcode fam n).1 _
  | brclr n d r => exact decode_cons (opcodeShape_bitOpcode fam n).2.1 _
  | bset n d => exact decode_cons (opcodeShape_bitOpcode fam n).2.2.1 _
  | bclr n d => exact decode_cons (opcodeShape_bitOpcode fam n).2.2.2 _
  | stop => rw [cmos_of_available_stop havail]; rfl
  | wait => rw [cmos_of_available_wait havail]; rfl
  | bhs | blo | aslDir | asla | aslx | aslIx1 | aslIx => cases hprimary
  | subExt w | sbcExt w | andExt w | ldaExt w | eorExt w | adcExt w | oraExt w | addExt w | cmpExt w | bitExt w | cpxExt w
  | ldxExt w | staExt w | stxExt w | jmpExt w | jsrExt w | subIx2 w | sbcIx2 w | andIx2 w | ldaIx2 w | eorIx2 w | adcIx2 w
  | oraIx2 w | addIx2 w | cmpIx2 w | bitIx2 w | cpxIx2 w | ldxIx2 w | staIx2 w | stxIx2 w | jmpIx2 w | jsrIx2 w =>
    exact (decode_cons rfl _).trans (read_word _ w)
  | _ => rfl

/-- An instruction's bytes are an opcode and as many operand bytes as it announces. -/
theorem encode_eq_cons (i : Instr) : ∃ op operands, encode i = op :: operands ∧ instrLength op - 1 = operands.length := by
  have length_eq : (encode i).length = instrLength ((encode i).headD 0) := by
    cases i with
    | brset n d r => exact (Laws.EncodedLength.brset n d r).1
    | brclr n d r => exact (Laws.EncodedLength.brclr n d r).1
    | bset n d => exact (Laws.EncodedLength.bset n d).1
    | bclr n d => exact (Laws.EncodedLength.bclr n d).1
    | _ => simp only [encode, List.headD_cons]; exact of_decide_eq_true rfl
  cases he : encode i with
  | nil => rw [he] at length_eq; exact absurd length_eq (by decide)
  | cons op operands =>
    rw [he] at length_eq
    exact ⟨op, operands, rfl, by rw [← List.headD_cons (a := op) (l := operands), ← length_eq]; rfl⟩

/-! ### Fetching bytes that stand in memory -/

theorem kindAt_of_trunc_eq {s : State} {a b : Addr} (h : trunc s.cfg a = trunc s.cfg b) : kindAt s a = kindAt s b := by
  simp only [kindAt, h]

theorem content_of_trunc_eq {s : State} {a b : Addr} (h : trunc s.cfg a = trunc s.cfg b) : content s a = content s b := by
  simp only [content, h]

/-- Which bytes stand somewhere depends on the reduced address alone. -/
theorem CodeAt.of_trunc_eq {s : State} (hc : s.cfg.wf) {bytes : List Byte} {a b : Addr}
    (h : trunc s.cfg a = trunc s.cfg b) (hcode : CodeAt s a bytes) : CodeAt s b bytes := by
  induction bytes generalizing a b with
  | nil => trivial
  | cons byte bytes ih =>
    obtain ⟨hkind, hbyte, hrest⟩ := hcode
    have hnext : trunc s.cfg (a + 1) = trunc s.cfg (b + 1) := by
      rw [← trunc_add_trunc (addrBits_le hc) a, h, trunc_add_trunc (addrBits_le hc)]
    rw [kindAt_of_trunc_eq h] at hkind
    rw [content_of_trunc_eq h] at hbyte
    exact ⟨hkind, hbyte, ih hnext hrest⟩

/-- The PC is no part of what stands in memory. -/
theorem CodeAt.setPc {s : State} {bytes : List Byte} {a : Addr} (h : CodeAt s a bytes) (v : Addr) :
    CodeAt (s.setPc v) a bytes := by
  induction bytes generalizing a with
  | nil => trivial
  | cons byte bytes ih =>
    obtain ⟨hkind, hbyte, hrest⟩ := h
    exact ⟨hkind, hbyte, ih hrest⟩

/-- Fetching the first byte of some code leaves the PC at the code behind it. -/
theorem fetch8_of_codeAt {s : State} (hc : s.cfg.wf) {b : Byte} {bytes : List Byte} (h : CodeAt s s.pc (b :: bytes)) :
    fetch8 s = (b, s.setPc (trunc s.cfg (s.pc + 1))) ∧
      CodeAt (s.setPc (trunc s.cfg (s.pc + 1))) (trunc s.cfg (s.pc + 1)) bytes := by
  obtain ⟨hkind, hbyte, hrest⟩ := h
  refine ⟨?_, (hrest.of_trunc_eq hc (trunc_trunc _ _).symm).setPc _⟩
  rw [fetch8, readByte_memory hkind, afterRead_memory hkind, hbyte]

/-- The address of some bytes behind the next one. -/
theorem succ_add_ofNat (a : Addr) (n : Nat) : a + 1 + BitVec.ofNat 16 n = a + BitVec.ofNat 16 (n + 1) := by
  rw [BitVec.add_assoc, Nat.add_comm, BitVec.ofNat_add]
  rfl

/-- Fetching all of some code, from a PC inside the address space. -/
theorem fetchBytes_of_codeAt {s : State} (hc : s.cfg.wf) (hpc : trunc s.cfg s.pc = s.pc) {bytes : List Byte}
    (h : CodeAt s s.pc bytes) :
    fetchBytes bytes.length s = (bytes, s.setPc (trunc s.cfg (s.pc + BitVec.ofNat 16 bytes.length))) := by
  induction bytes generalizing s with
  | nil =>
    show ([], s) = _
    rw [List.length_nil, BitVec.add_zero, hpc]
    rfl
  | cons b bytes ih =>
    obtain ⟨hfetch, hcode⟩ := fetch8_of_codeAt hc h
    have hrest := ih (s := s.setPc (trunc s.cfg (s.pc + 1))) hc (trunc_trunc _ _) hcode
    simp only [State.setPc_cfg, State.setPc_pc, trunc_add_trunc (addrBits_le hc), succ_add_ofNat] at hrest
    rw [List.length_cons, fetchBytes, hfetch, hrest]
    rfl

/-- Fetching a well-formed instruction that stands at the PC. -/
theorem fetchInstr_of_codeAt {s : State} {i : Instr} (hc : s.cfg.wf) (hwf : i.WellFormed s.cfg.family)
    (h : CodeAt s s.pc (encode i)) :
    fetchInstr s = (.ok i [], s.setPc (trunc s.cfg (s.pc + BitVec.ofNat 16 (encode i).length))) := by
  have hdecode := decode_encode hwf
  obtain ⟨op, operands, he, hlen⟩ := encode_eq_cons i
  rw [he] at h hdecode ⊢
  obtain ⟨hfetch, hcode⟩ := fetch8_of_codeAt hc h
  have hrest := fetchBytes_of_codeAt (s := s.setPc (trunc s.cfg (s.pc + 1))) hc (trunc_trunc _ _) hcode
  simp only [State.setPc_cfg, State.setPc_pc, trunc_add_trunc (addrBits_le hc), succ_add_ofNat] at hrest
  rw [fetchInstr, hfetch, hlen, hrest, hdecode]
  rfl

/-! ### The step that runs it -/

/-- With no input, no request and the processor running, the step is one instruction. -/
theorem step_of_quiet {s : State} (h : Quiet s) : step s = runInstruction s := by
  obtain ⟨hin, hrun, hmask⟩ := h
  have hsample : sampleInputs s = s := by simp [sampleInputs, hin]
  have hreset : resetAsserted s = false := by simp [resetAsserted, hin]
  have hevent : chooseEvent false s = .instruction := by
    rcases hmask with hi | ⟨hext, htimer⟩
    · simp [chooseEvent, hi, hrun]
    · simp [chooseEvent, hext, htimer, hrun]
  simp only [step, hsample, hreset, hevent]

/-- Settles O9: the quiet step fetches, the bytes decode to the instruction, and it runs with its cycles charged. -/
theorem stepRunsEncodedInstruction : Obligations.StepRunsEncodedInstruction := by
  intro s i hc hquiet hwf hcode
  rw [step_of_quiet hquiet, runInstruction, fetchInstr_of_codeAt hc hwf hcode]

end Sys2Proof.Machine
end

section
/-! Effective addresses and relative targets as numbers: truncation of a sum reduces it modulo the address space, which a sum of
two bytes never leaves (R66, R77 to R83). -/

namespace Sys2Proof.Machine

/-- A 16-bit sum reduced to the address width is the sum of the values reduced. -/
theorem trunc_add_toNat {c : Config} (hc : c.wf) (v w : Addr) :
    (trunc c (v + w)).toNat = (v.toNat + w.toNat) % 2 ^ c.addrBits := by
  rw [trunc_toNat (addrBits_le hc), BitVec.toNat_add, Nat.mod_mod_of_dvd _ (pow_dvd_pow 2 (addrBits_le hc))]

/-- A byte enters an address unsigned. -/
theorem byteAddress_toNat (b : Byte) : (b.setWidth 16).toNat = b.toNat := BitVec.toNat_setWidth_of_le (by decide)

theorem ea_ext_toNat {s : State} (hc : s.cfg.wf) (a : Addr) : (ea (.ext a) s).toNat = a.toNat % 2 ^ s.cfg.addrBits :=
  trunc_toNat (addrBits_le hc) a

theorem ea_ix2_toNat {s : State} (hc : s.cfg.wf) (o : Addr) :
    (ea (.ix2 o) s).toNat = (o.toNat + s.x.toNat) % 2 ^ s.cfg.addrBits := by
  rw [ea, trunc_add_toNat hc, byteAddress_toNat]

/-- The sum of an 8-bit offset and X fits in 9 bits, fewer than any member's address has. -/
theorem ea_ix1_toNat {s : State} (hc : s.cfg.wf) (o : Byte) : (ea (.ix1 o) s).toNat = o.toNat + s.x.toNat := by
  have hspace : 2 ^ 11 ≤ 2 ^ s.cfg.addrBits := Nat.pow_le_pow_right (by decide) hc.1
  rw [ea, trunc_add_toNat hc, byteAddress_toNat, byteAddress_toNat, Nat.mod_eq_of_lt (by omega)]

/-- Settles O11: bytes enter an address unsigned, and the sum of two of them lies inside the address space. -/
theorem pageZeroAddresses : Obligations.PageZeroAddresses := fun s hc =>
  ⟨byteAddress_toNat, byteAddress_toNat s.x, ea_ix1_toNat hc⟩

/-- Settles O12: truncation is reduction modulo the address space, of an address and of a sum. -/
theorem sixteenBitAddresses : Obligations.SixteenBitAddresses := fun _ hc => ⟨ea_ext_toNat hc, ea_ix2_toNat hc⟩

/-- The sign-extended offset is the signed offset modulo 2^16. -/
theorem signExtend_toNat (r : Byte) : ((r.signExtend 16).toNat : Int) = r.toInt % (2 ^ 16 : Nat) := by
  rw [BitVec.signExtend, BitVec.toNat_ofInt, Int.toNat_of_nonneg (Int.emod_nonneg _ (by decide))]

/-- Settles O13: the offset is known modulo 2^16, which the size of the address space divides. -/
theorem relativeTargets : Obligations.RelativeTargets := by
  intro s r hc
  have hdvd : ((2 ^ s.cfg.addrBits : Nat) : Int) ∣ (2 ^ 16 : Nat) :=
    Int.natCast_dvd_natCast.2 (pow_dvd_pow 2 (addrBits_le hc))
  calc ((relTarget r s).toNat : Int)
      = ((s.pc.toNat : Int) + (r.signExtend 16).toNat) % (2 ^ s.cfg.addrBits : Nat) := by
        rw [relTarget, trunc_add_toNat hc]; push_cast; rfl
    _ = ((s.pc.toNat : Int) + r.toInt % (2 ^ 16 : Nat)) % (2 ^ s.cfg.addrBits : Nat) := by rw [signExtend_toNat]
    _ = ((s.pc.toNat : Int) + r.toInt) % (2 ^ s.cfg.addrBits : Nat) := by
        rw [Int.add_emod, Int.emod_emod_of_dvd _ hdvd, ← Int.add_emod]

end Sys2Proof.Machine
end

section
/-! What a location's kind makes of its accesses, and the bytes that the operations and instructions leave alone (R67, R68). -/

namespace Sys2Proof.Machine

/-! ### Accesses by kind (R67, decision D5) -/

/-- RAM, I/O registers and write-only registers take a write. -/
theorem content_memWrite_stored {s : State} {addr : Addr}
    (h : kindAt s addr = .ram ∨ kindAt s addr = .io ∨ kindAt s addr = .writeOnly) (v : Byte) :
    content (memWrite s addr v) addr = v := by
  have e : memWrite s addr v = s.setMem (s.mem.write (trunc s.cfg addr).toNat v) := by
    rcases h with h | h | h <;> simp only [memWrite, h]
  rw [e]
  exact Memory.read_write_same s.mem _ v

/-- ROM and absent locations take none. -/
theorem memWrite_ignored {s : State} {addr : Addr} (h : kindAt s addr = .rom ∨ kindAt s addr = .absent) (v : Byte) :
    memWrite s addr v = s := by
  rcases h with h | h <;> simp only [memWrite, h]

theorem kindAt_memWrite (s : State) (addr : Addr) (v : Byte) (b : Addr) : kindAt (memWrite s addr v) b = kindAt s b :=
  kindAt_congr (memWrite_cfg s addr v) b

theorem readByte_writeOnly {s : State} {addr : Addr} (h : kindAt s addr = .writeOnly) : readByte s addr = 0xFF := by
  simp only [readByte, h]

theorem afterRead_writeOnly {s : State} {addr : Addr} (h : kindAt s addr = .writeOnly) : afterRead s addr = s := by
  simp only [afterRead, h]

/-- The environment gives the byte of an I/O or absent location, the next one of its sequence. -/
theorem readByte_free {s : State} {addr : Addr} (h : kindAt s addr = .io ∨ kindAt s addr = .absent) :
    readByte s addr = Config.inputByte (trunc s.cfg addr).toNat s.draws := by
  rcases h with h | h <;> simp only [readByte, h]

/-- Reading such a location counts one byte of the environment's. -/
theorem afterRead_free {s : State} {addr : Addr} (h : kindAt s addr = .io ∨ kindAt s addr = .absent) :
    afterRead s addr = s.setDraws (s.draws + 1) := by
  rcases h with h | h <;> simp only [afterRead, h]

/-- The content of a location depends on the memory and the member alone. -/
theorem content_congr {s t : State} (hmem : t.mem = s.mem) (hcfg : t.cfg = s.cfg) (b : Addr) :
    content t b = content s b := by
  simp only [content, hmem, hcfg]

@[simp] theorem content_afterRead (s : State) (addr b : Addr) : content (afterRead s addr) b = content s b :=
  content_congr (afterRead_mem s addr) (afterRead_cfg s addr) b

/-- Settles O59: kind by kind, what a write stores and what a read then answers. -/
theorem accessByKind : Obligations.AccessByKind := by
  intro s addr v
  have hkind := kindAt_memWrite s addr v addr
  refine ⟨fun h => ?ram, fun h => ?rom, fun h => ?writeOnly, fun h => ?io, fun h => ?absent, fun h => ?free,
    fun b hb => content_memWrite_other s v hb, content_afterRead s addr⟩
  case ram => exact ⟨(readByte_memory (.inl (hkind.trans h))).trans (content_memWrite_stored (.inl h) v),
    afterRead_memory (.inl h)⟩
  case rom =>
    rw [memWrite_ignored (.inl h)]
    exact ⟨readByte_memory (.inr h), afterRead_memory (.inr h)⟩
  case writeOnly =>
    exact ⟨readByte_writeOnly h, content_memWrite_stored (.inr (.inr h)) v, afterRead_writeOnly h⟩
  case io => exact content_memWrite_stored (.inr (.inl h)) v
  case absent => exact memWrite_ignored (.inr h) v
  case free =>
    refine ⟨readByte_free h, ?_, afterRead_free h⟩
    rw [readByte_free h, readByte_free (by rwa [hkind]), memWrite_cfg, memWrite_draws]

/-! ### The bytes an operation leaves alone (R68) -/

/-- The location of an address is none of those the listed addresses reach. -/
def Outside (c : Config) (b : Addr) (stored : List Addr) : Prop := ∀ p ∈ stored, trunc c b ≠ trunc c p

theorem Outside.singleton {c : Config} {b p : Addr} (h : Outside c b [p]) : trunc c b ≠ trunc c p :=
  h p (List.mem_singleton_self p)

/-- The slots of some pushes in a row, first push first. -/
def stackSlots (c : Config) (k : Nat) (sp : Addr) : List Addr := (List.range k).map fun j => spBelow c j sp

theorem Outside.slot {c : Config} {b sp : Addr} {k : Nat} (h : Outside c b (stackSlots c k sp)) {j : Nat} (hj : j < k) :
    trunc c b ≠ trunc c (spBelow c j sp) :=
  h _ (List.mem_map_of_mem (List.mem_range.2 hj))

theorem Outside.fewer {c : Config} {b sp : Addr} {j k : Nat} (h : Outside c b (stackSlots c k sp)) (hjk : j ≤ k) :
    Outside c b (stackSlots c j sp) := fun p hp => by
  obtain ⟨m, hm, rfl⟩ := List.mem_map.1 hp
  exact h.slot ((List.mem_range.1 hm).trans_le hjk)

/-- A push changes the location SP reaches and no other, whatever is there. -/
theorem content_push_other {s : State} {b : Addr} (v : Byte) (h : trunc s.cfg b ≠ trunc s.cfg s.sp) :
    content (push v s) b = content s b :=
  content_memWrite_other s v h

theorem content_pushPc_other {s : State} {b : Addr} (h : Outside s.cfg b (stackSlots s.cfg 2 s.sp)) :
    content (pushPc s) b = content s b := by
  rw [pushPc, content_push_other _ (by simpa [spBelow] using h.slot (j := 1) (by decide)),
    content_push_other _ (h.slot (j := 0) (by decide))]

theorem content_pushFrame_other {s : State} {b : Addr} (h : Outside s.cfg b (stackSlots s.cfg 5 s.sp)) :
    content (pushFrame s) b = content s b := by
  rw [pushFrame, content_push_other _ (by simpa [spBelow] using h.slot (j := 4) (by decide)),
    content_push_other _ (by simpa [spBelow] using h.slot (j := 3) (by decide)),
    content_push_other _ (by simpa [spBelow] using h.slot (j := 2) (by decide)),
    content_pushPc_other (h.fewer (by decide))]

theorem content_takeException_other {s : State} {b : Addr} (vec : Addr)
    (h : Outside s.cfg b (stackSlots s.cfg 5 s.sp)) : content (takeException vec s) b = content s b := by
  rw [← content_pushFrame_other h]
  exact content_congr (by simp [takeException]) (by simp) b

theorem content_rmwMem_other {s : State} {b : Addr} {mode : Mode} (f : Byte → CC → Byte × CC)
    (h : trunc s.cfg b ≠ trunc s.cfg (ea mode s)) : content (rmwMem mode f s) b = content s b := by
  rw [← content_afterRead s (ea mode s)]
  exact content_memWrite_other _ _ (by simpa using h)

theorem content_modifyBit_other {s : State} {b : Addr} {d : Byte} (change : Byte → Byte)
    (h : trunc s.cfg b ≠ trunc s.cfg (ea (.dir d) s)) : content (modifyBit d change s) b = content s b := by
  rw [← content_afterRead s (ea (.dir d) s)]
  exact content_memWrite_other _ _ (by simpa using h)

/-! ### The bytes an instruction leaves alone -/

theorem operandAddress_mem {i : Instr} {mode : Mode} (h : placeOf i = .mem mode) (s : State) :
    operandAddress i s = [ea mode s] := by
  simp only [operandAddress, h]

theorem storesTo_of_modifies {i : Instr} (h : modifies (opOf i) = true) (s : State) :
    storesTo i s = operandAddress i s := by
  unfold storesTo
  cases hop : opOf i with
  | neg | com | lsr | ror | asr | lsl | rol | dec | inc | clr => rfl
  | _ => simp [hop, modifies] at h

theorem OperandOp.keeps_content {op : Op} {go : Byte → State → State} (hop : OperandOp op go) (v : Byte) (s : State)
    (b : Addr) : content (go v s) b = content s b := by
  cases hop <;> rfl

/-- A meaning changes no byte outside the addresses listed for its instruction. -/
theorem Meaning.content_other {i : Instr} {op : Op} {p : Place} {f : State → State} (hf : Meaning op p f)
    (hop : opOf i = op) (hp : placeOf i = p) {s : State} {b : Addr} (hb : Outside s.cfg b (storesTo i s)) :
    content (f s) b = content s b := by
  cases hf with
  | immediate h v => exact h.keeps_content v s b
  | operand h mode => rw [withOperand_eq, h.keeps_content, content_afterRead]
  | modifyMem h mode =>
    rw [storesTo_of_modifies (hop ▸ h.modifies), operandAddress_mem hp] at hb
    exact content_rmwMem_other _ hb.singleton
  | storeA mode | storeX mode =>
    simp only [storesTo, hop, operandAddress_mem hp] at hb
    exact content_memWrite_other s _ hb.singleton
  | setBit | clearBit =>
    simp only [storesTo, hop, operandAddress_mem hp] at hb
    exact content_modifyBit_other _ hb.singleton
  | jumpSub | branchSub =>
    simp only [storesTo, hop] at hb
    exact content_pushPc_other hb
  | swi =>
    simp only [storesTo, hop] at hb
    exact content_takeException_other _ hb
  | branchIfSet | branchIfClear | branch | rts | rti => exact content_congr (by simp) (by simp) b
  | modifyA | modifyX | testRegA | testRegX | jump | stop | wait | tax | txa | rsp | nop | clc | sec | cli | sei => rfl

/-- Settles O53: the meaning of the instruction that ran changes no byte outside its addresses. -/
theorem memoryFrame : Obligations.MemoryFrame := by
  intro i s t b h hb
  obtain ⟨f, hf, rfl⟩ := exec_next h
  exact hf.content_other rfl rfl hb

end Sys2Proof.Machine
end

section
/-! The decoder and the encoder as inverses of each other: the opcode map read column by column, the decoder's answers, and what
the opcode byte alone decides (R90 to R102). -/

namespace Sys2Proof.Machine

/-! ### The opcode map against the encoder (R94 to R97) -/

/-- Whatever operands a shape takes, it makes a well-formed instruction of them, whose bytes are the opcode and the operands. -/
def ShapeEncodes (fam : Family) (op : Byte) (sh : Shape) : Prop :=
  match sh with
  | .plain i => i.WellFormed fam ∧ encode i = [op]
  | .one f => ∀ b, (f b).WellFormed fam ∧ encode (f b) = [op, b]
  | .two f => ∀ b c, (f b c).WellFormed fam ∧ encode (f b c) = [op, b, c]
  | .word f => ∀ w, (f w).WellFormed fam ∧ encode (f w) = [op, hiByte w, loByte w]

/-- Every row of a column is encoded with the column's number as high nibble and the row's as low nibble. -/
def ColumnEncodes (fam : Family) (hi : Nat) (column : Nat → Option Shape) : Prop :=
  ∀ lo sh, column lo = some sh → ShapeEncodes fam (BitVec.ofNat 8 (16 * hi + lo)) sh

/-- An opcode's shape encodes to the opcode when its column does. -/
theorem ColumnEncodes.shape {fam : Family} {hi : Nat} {column : Nat → Option Shape} (hcol : ColumnEncodes fam hi column)
    {op : Byte} (hhi : op.toNat / 16 = hi) {sh : Shape} (h : column (op.toNat % 16) = some sh) : ShapeEncodes fam op sh := by
  have nibbles : BitVec.ofNat 8 (16 * hi + op.toNat % 16) = op := by
    rw [← hhi, Nat.div_add_mod, BitVec.ofNat_toNat, BitVec.setWidth_eq]
  exact nibbles ▸ hcol _ _ h

/-- The columns whose instructions have no operand. -/
theorem plainColumns_encode (fam : Family) :
    ColumnEncodes fam 0x4 columnRmwA ∧ ColumnEncodes fam 0x5 columnRmwX ∧ ColumnEncodes fam 0x7 columnRmwIx ∧
      ColumnEncodes fam 0x8 (columnControl8 fam) ∧ ColumnEncodes fam 0x9 columnControl9 ∧
      ColumnEncodes fam 0xF columnIx := by
  refine ⟨?_, ?_, ?_, ?_, ?_, ?_⟩ <;> intro lo sh h
  all_goals
    simp only [columnRmwA, columnRmwX, columnRmwIx, columnControl8, columnControl9, columnIx] at h
    split at h <;> cases h <;> exact ⟨⟨rfl, rfl⟩, rfl⟩

/-- The columns whose instructions have one operand byte. -/
theorem oneByteColumns_encode (fam : Family) :
    ColumnEncodes fam 0x2 columnBranch ∧ ColumnEncodes fam 0x3 columnRmwDir ∧ ColumnEncodes fam 0x6 columnRmwIx1 ∧
      ColumnEncodes fam 0xA columnImm ∧ ColumnEncodes fam 0xB columnDir ∧ ColumnEncodes fam 0xE columnIx1 := by
  refine ⟨?_, ?_, ?_, ?_, ?_, ?_⟩ <;> intro lo sh h
  all_goals
    simp only [columnBranch, columnRmwDir, columnRmwIx1, columnImm, columnDir, columnIx1] at h
    split at h <;> cases h <;> exact fun _ => ⟨⟨rfl, rfl⟩, rfl⟩

/-- The columns whose instructions have a 16-bit operand. -/
theorem wordColumns_encode (fam : Family) :
    ColumnEncodes fam 0xC columnExt ∧ ColumnEncodes fam 0xD columnIx2 := by
  refine ⟨?_, ?_⟩ <;> intro lo sh h
  all_goals
    simp only [columnExt, columnIx2] at h
    split at h <;> cases h <;> exact fun _ => ⟨⟨rfl, rfl⟩, rfl⟩

/-- An opcode is its base plus twice its bit number, where the base holds its other bits (R95). -/
theorem bitOpcode_bitNumber {op : Byte} (base : Nat) (h : op.toNat = base + 2 * (op.toNat / 2 % 8)) :
    bitOpcode (BitVec.ofNat 8 base) (bitNumber op) = op := by
  have number : (bitNumber op).toNat = op.toNat / 2 % 8 := by
    simp [bitNumber, BitVec.extractLsb'_toNat, Nat.shiftRight_eq_div_pow]
  have two : (2 : Byte).toNat = 2 := rfl
  apply BitVec.eq_of_toNat_eq
  have := op.isLt
  simp only [bitOpcode, BitVec.toNat_add, BitVec.toNat_mul, BitVec.toNat_setWidth, BitVec.toNat_ofNat, number, two]
  omega

/-- Column 0 of the map: bit 0 of the opcode tells BRSET from BRCLR. -/
theorem bitBranchColumn_encodes {fam : Family} {op : Byte} (hhi : op.toNat / 16 = 0) :
    ShapeEncodes fam op
      (.two (if op.toNat % 16 % 2 = 0 then .brset (bitNumber op) else .brclr (bitNumber op))) := by
  split <;> refine fun b c => ⟨⟨rfl, rfl⟩, congrArg ([·, b, c]) ?_⟩
  · exact bitOpcode_bitNumber 0x00 (by omega)
  · exact bitOpcode_bitNumber 0x01 (by omega)

/-- Column 1 of the map: bit 0 of the opcode tells BSET from BCLR. -/
theorem bitSetColumn_encodes {fam : Family} {op : Byte} (hhi : op.toNat / 16 = 1) :
    ShapeEncodes fam op (.one (if op.toNat % 16 % 2 = 0 then .bset (bitNumber op) else .bclr (bitNumber op))) := by
  split <;> refine fun b => ⟨⟨rfl, rfl⟩, congrArg ([·, b]) ?_⟩
  · exact bitOpcode_bitNumber 0x10 (by omega)
  · exact bitOpcode_bitNumber 0x11 (by omega)

/-- Every defined opcode of the map is the opcode under which the encoder writes its instructions. -/
theorem opcodeShape_encodes {fam : Family} {op : Byte} {sh : Shape} (h : opcodeShape fam op = some sh) :
    ShapeEncodes fam op sh := by
  obtain ⟨rmwA, rmwX, rmwIx, control8, control9, ix⟩ := plainColumns_encode fam
  obtain ⟨branch, rmwDir, rmwIx1, imm, dir, ix1⟩ := oneByteColumns_encode fam
  obtain ⟨ext, ix2⟩ := wordColumns_encode fam
  unfold opcodeShape at h
  split at h
  next hhi => cases h; exact bitBranchColumn_encodes hhi
  next hhi => cases h; exact bitSetColumn_encodes hhi
  next hhi => exact branch.shape hhi h
  next hhi => exact rmwDir.shape hhi h
  next hhi => exact rmwA.shape hhi h
  next hhi => exact rmwX.shape hhi h
  next hhi => exact rmwIx1.shape hhi h
  next hhi => exact rmwIx.shape hhi h
  next hhi => exact control8.shape hhi h
  next hhi => exact control9.shape hhi h
  next hhi => exact imm.shape hhi h
  next hhi => exact dir.shape hhi h
  next hhi => exact ext.shape hhi h
  next hhi => exact ix2.shape hhi h
  next hhi => exact ix1.shape hhi h
  next => exact ix.shape (by have := op.isLt; grind) h

/-! ### What the decoder answers -/

/-- The decoder accepts some bytes exactly when their first byte is defined and its shape reads the others. -/
theorem decode_eq_ok_iff {fam : Family} {bytes rest : List Byte} {i : Instr} :
    decode fam bytes = .ok i rest ↔
      ∃ op operands sh, bytes = op :: operands ∧ opcodeShape fam op = some sh ∧ sh.read operands = .ok i rest := by
  constructor
  · intro h
    cases bytes with
    | nil => cases h
    | cons op operands =>
      cases hsh : opcodeShape fam op with
      | none => simp [decode, hsh] at h
      | some sh => exact ⟨op, operands, sh, rfl, hsh, decode_cons hsh operands ▸ h⟩
  · rintro ⟨op, operands, sh, rfl, hsh, hread⟩
    exact (decode_cons hsh operands).trans hread

/-- A shape that reads its operands leaves alone what follows them. -/
theorem read_append {sh : Shape} {bytes rest : List Byte} {i : Instr} (h : sh.read bytes = .ok i rest)
    (more : List Byte) : sh.read (bytes ++ more) = .ok i (rest ++ more) := by
  unfold Shape.read at h
  split at h <;> cases h <;> rfl

/-- What follows an instruction's bytes does not change how they decode. -/
theorem decode_append {fam : Family} {bytes rest : List Byte} {i : Instr} (h : decode fam bytes = .ok i rest)
    (more : List Byte) : decode fam (bytes ++ more) = .ok i (rest ++ more) := by
  obtain ⟨op, operands, sh, rfl, hsh, hread⟩ := decode_eq_ok_iff.1 h
  exact decode_eq_ok_iff.2 ⟨op, operands ++ more, sh, rfl, hsh, read_append hread more⟩

/-- Settles O1: an instruction's bytes alone decode to it, and what follows them is untouched. -/
theorem decodeOfEncode : Obligations.DecodeOfEncode := by
  intro fam i rest hwf
  exact decode_append (decode_encode hwf) rest

/-- What a shape reads is well formed, and its bytes are the opcode and the operand bytes that were read. -/
theorem encode_of_read {fam : Family} {op : Byte} {sh : Shape} (hsh : ShapeEncodes fam op sh) {bytes rest : List Byte}
    {i : Instr} (h : sh.read bytes = .ok i rest) : i.WellFormed fam ∧ encode i ++ rest = op :: bytes := by
  unfold Shape.read at h
  split at h <;> cases h
  next => exact ⟨hsh.1, by rw [hsh.2]; rfl⟩
  next f b => exact ⟨(hsh b).1, by rw [(hsh b).2]; rfl⟩
  next f b c => exact ⟨(hsh b c).1, by rw [(hsh b c).2]; rfl⟩
  next f hi lo =>
    refine ⟨(hsh (wordOf hi lo)).1, ?_⟩
    rw [(hsh (wordOf hi lo)).2, hiByte_wordOf, loByte_wordOf]
    rfl

/-- Settles O2: the opcode's place in the map is the one the encoder gives it, and the operands are the bytes read. -/
theorem encodeOfDecode : Obligations.EncodeOfDecode := by
  intro fam bytes rest i h
  obtain ⟨op, operands, sh, rfl, hsh, hread⟩ := decode_eq_ok_iff.1 h
  exact encode_of_read (opcodeShape_encodes hsh) hread

/-! ### What the opcode byte decides -/

theorem instrLength_bounds (op : Byte) : 1 ≤ instrLength op ∧ instrLength op ≤ 3 := by
  unfold instrLength
  split <;> decide

/-- Settles O5: the bytes accepted are the instruction's own, which are as many as their first byte announces. -/
theorem opcodeDecidesLength : Obligations.OpcodeDecidesLength := by
  intro fam op operands rest i h
  obtain ⟨-, hbytes⟩ := encodeOfDecode fam _ _ _ h
  obtain ⟨first, others, hencode, hlen⟩ := encode_eq_cons i
  obtain ⟨hpos, hmax⟩ := instrLength_bounds op
  rw [hencode, List.cons_append, List.cons.injEq] at hbytes
  obtain ⟨rfl, rfl⟩ := hbytes
  rw [hencode, List.length_cons, List.length_append]
  omega

/-- The bytes R99 lists are those the opcode map has no entry for. -/
theorem mem_undefinedOpcodes_iff (fam : Family) (op : Byte) :
    op ∈ undefinedOpcodes fam ↔ (opcodeShape fam op).isNone = true := by
  revert op
  cases fam <;> decide +kernel

/-- A shape rejects its operands for being too few, never for the opcode. -/
theorem read_ne_undefinedOpcode (sh : Shape) (bytes : List Byte) (op : Byte) :
    sh.read bytes ≠ .rejected (.undefinedOpcode op) := by
  unfold Shape.read
  split <;> nofun

/-- The decoder names an opcode as undefined exactly when the map has no entry for it. -/
theorem decode_eq_undefinedOpcode_iff (fam : Family) (op : Byte) (rest : List Byte) :
    decode fam (op :: rest) = .rejected (.undefinedOpcode op) ↔ (opcodeShape fam op).isNone = true := by
  cases hsh : opcodeShape fam op with
  | none => simp [decode, hsh]
  | some sh => simp [decode_cons hsh, read_ne_undefinedOpcode]

/-- An instruction whose bytes the decoder rejects is a fault that names its opcode. -/
theorem runInstruction_of_rejected {s : State} {why : Reject} (h : (fetchInstr s).1 = .rejected why) :
    runInstruction s = .fault (.undefinedOpcode (readByte s s.pc)) := by
  have hfetch : fetchInstr s = (.rejected why, (fetchInstr s).2) := Prod.ext h rfl
  rw [runInstruction, hfetch]

/-- Settles O4: the listed bytes are those outside the opcode map, and the quiet step that fetches one faults. -/
theorem undefinedOpcodesHaveNoInstruction : Obligations.UndefinedOpcodesHaveNoInstruction := by
  have listed (fam : Family) (op : Byte) (rest : List Byte) :
      op ∈ undefinedOpcodes fam ↔ decode fam (op :: rest) = .rejected (.undefinedOpcode op) :=
    (mem_undefinedOpcodes_iff fam op).trans (decode_eq_undefinedOpcode_iff fam op rest).symm
  refine ⟨listed, fun s hquiet hop => ?_⟩
  rw [step_of_quiet hquiet]
  exact runInstruction_of_rejected ((listed _ _ _).1 hop)

/-- Settles O3: the two counts over the 256 opcode bytes. -/
theorem opcodeCounts : Obligations.OpcodeCounts := by
  constructor <;> decide +kernel

/-- Settles O6: each word is the encoding of its instruction. -/
theorem wordsOfTheMapDecode : Obligations.WordsOfTheMapDecode :=
  ⟨decode_encode (i := .brclr 7 0x09 0xFD) ⟨rfl, rfl⟩, decode_encode (i := .bclr 2 0x01) ⟨rfl, rfl⟩,
    decode_encode (i := .bne 0xFA) ⟨rfl, rfl⟩, decode_encode (i := .decIx1 0xFF) ⟨rfl, rfl⟩,
    decode_encode (i := .ldxExt 0x0800) ⟨rfl, rfl⟩, decode_encode (i := .ldaIx2 0x01FF) ⟨rfl, rfl⟩,
    decode_encode (i := .swi) ⟨rfl, rfl⟩, decode_encode (i := .bsr 0x20) ⟨rfl, rfl⟩⟩

/-! ### Second names and the step -/

/-- An instruction is one of the seven second names or its own primary name (R102). -/
theorem primary_eq_self_or_secondName (i : Instr) :
    i.primary = i ∨ (∃ r, i = .bhs r ∨ i = .blo r) ∨ (∃ d, i = .aslDir d) ∨ (∃ o, i = .aslIx1 o) ∨
      i = .asla ∨ i = .aslx ∨ i = .aslIx := by
  cases i with
  | bhs r => exact .inr (.inl ⟨r, .inl rfl⟩)
  | blo r => exact .inr (.inl ⟨r, .inr rfl⟩)
  | aslDir d => exact .inr (.inr (.inl ⟨d, rfl⟩))
  | aslIx1 o => exact .inr (.inr (.inr (.inl ⟨o, rfl⟩)))
  | asla | aslx | aslIx => simp
  | _ => exact .inl rfl

/-- Settles O7: a primary name is itself, and the rows of a second name are those of the primary one. -/
theorem secondNamesAreOneInstruction : Obligations.SecondNamesAreOneInstruction := by
  intro i
  obtain hself | ⟨r, rfl | rfl⟩ | ⟨d, rfl⟩ | ⟨o, rfl⟩ | rfl | rfl | rfl := primary_eq_self_or_secondName i
  · rw [hself]; exact ⟨rfl, fun _ => rfl, fun _ => rfl⟩
  all_goals exact ⟨rfl, fun _ => rfl, fun _ => rfl⟩

/-- Settles O8: the boundary's choice is the instruction, and sampling the inputs leaves the member alone. -/
theorem stepRunsDecodedInstruction : Obligations.StepRunsDecodedInstruction := by
  intro s t i rest hevent hfetch
  simp only [step, hevent, runInstruction, hfetch, sampleInputs_cfg]

end Sys2Proof.Machine
end

section
/-! The register/memory instructions (R170 to R186): the flags as the manual prints them, the forms of each instruction, and the
return address a call stacks. -/

namespace Sys2Proof.Machine

/-! ### N and Z (R170) -/

theorem printedN_eq_msb (r : Byte) : printedN r = r.msb := (BitVec.msb_eq_getLsbD_last r).symm

/-- The printed product of complements says that no bit of the result is set. -/
theorem printedZ_eq_true_iff (r : Byte) : printedZ r = true ↔ r = 0 := by
  constructor
  · intro h
    apply BitVec.eq_of_getLsbD_eq
    intro i hi
    rw [show (0 : Byte).getLsbD i = false from BitVec.getLsbD_zero]
    simp only [printedZ, Bool.and_eq_true, Bool.not_eq_true'] at h
    interval_cases i <;> simp only [h]
  · rintro rfl
    rfl

theorem printedZ_eq_beq (r : Byte) : printedZ r = (r == 0) :=
  Bool.eq_iff_iff.2 ((printedZ_eq_true_iff r).trans beq_iff_eq.symm)

/-- `SetNZ` gives N and Z as they are printed. -/
theorem setNZ_eq_withNZ (cc : CC) (r : Byte) : setNZ cc r = withNZ cc r := by
  rw [setNZ, withNZ, printedN_eq_msb, printedZ_eq_beq]

/-! ### Carry and borrow (R171, R172, R175, R183) -/

theorem carryByte_eq_ofBool (cc : CC) : carryByte cc = (BitVec.ofBool cc.c).setWidth 8 := by
  unfold carryByte
  cases cc.c <;> rfl

theorem carryByte_eq_ofNat (cc : CC) : carryByte cc = BitVec.ofNat 8 cc.c.toNat := by
  unfold carryByte
  cases cc.c <;> rfl

/-- Adding without a carry is adding with a clear one. -/
theorem add_clear_carry (a m : Byte) : a + m + (BitVec.ofBool false).setWidth 8 = a + m := BitVec.add_zero _

/-- The printed formula at bit `i` of a sum is the carry out of that bit: the sum's bit tells the carry that came in, and two of
the three added bits are set exactly when two of the formula's three are. -/
theorem printedCarry_eq_carry (a m : Byte) (c : Bool) {i : Nat} (hi : i < 8) {r : Byte}
    (hr : a + m + (BitVec.ofBool c).setWidth 8 = r) :
    ((a.getLsbD i && m.getLsbD i) || (m.getLsbD i && !r.getLsbD i) || (!r.getLsbD i && a.getLsbD i)) =
      BitVec.carry (i + 1) a m c := by
  rw [← hr, BitVec.getLsbD_add_add_bool hi, BitVec.carry_succ]
  cases a.getLsbD i <;> cases m.getLsbD i <;> cases BitVec.carry i a m c <;> rfl

theorem printedH_add_ofBool (a m : Byte) (c : Bool) :
    printedH a m (a + m + (BitVec.ofBool c).setWidth 8) = decide (a.toNat % 16 + m.toNat % 16 + c.toNat > 15) :=
  printedCarry_eq_carry a m c (i := 3) (by decide) rfl

theorem printedAddC_add_ofBool (a m : Byte) (c : Bool) :
    printedAddC a m (a + m + (BitVec.ofBool c).setWidth 8) = decide (a.toNat + m.toNat + c.toNat > 255) :=
  (printedCarry_eq_carry a m c (i := 7) (by decide) rfl).trans BitVec.carry_width

/-- The borrow of a subtraction is the carry of the sum that undoes it. -/
theorem printedSubC_eq_printedAddC (a m r : Byte) : printedSubC a m r = printedAddC r m a := by
  unfold printedSubC printedAddC
  cases a.getLsbD 7 <;> cases m.getLsbD 7 <;> cases r.getLsbD 7 <;> rfl

theorem printedSubC_sub_ofBool (a m : Byte) (c : Bool) :
    printedSubC a m (a - m - (BitVec.ofBool c).setWidth 8) = decide (m.toNat + c.toNat > a.toNat) := by
  have undo (r : Byte) (hr : r + m + (BitVec.ofBool c).setWidth 8 = a) :
      printedSubC a m r = decide (m.toNat + c.toNat > a.toNat) := by
    have hvalue : (r.toNat + m.toNat + c.toNat) % 256 = a.toNat := by
      rw [← hr]
      cases c <;> simp
    rw [printedSubC_eq_printedAddC, ← hr, printedAddC_add_ofBool, hr, decide_eq_decide]
    omega
  apply undo
  bv_omega

theorem printedH_adc (a m : Byte) (cc : CC) :
    printedH a m (a + m + carryByte cc) = decide (a.toNat % 16 + m.toNat % 16 + cc.c.toNat > 15) := by
  rw [carryByte_eq_ofBool, printedH_add_ofBool]

theorem printedAddC_adc (a m : Byte) (cc : CC) :
    printedAddC a m (a + m + carryByte cc) = decide (a.toNat + m.toNat + cc.c.toNat > 255) := by
  rw [carryByte_eq_ofBool, printedAddC_add_ofBool]

theorem printedH_add (a m : Byte) :
    printedH a m (a + m) = decide (a.toNat % 16 + m.toNat % 16 > 15) := by
  have h := printedH_add_ofBool a m false
  rwa [add_clear_carry] at h

theorem printedAddC_add (a m : Byte) : printedAddC a m (a + m) = decide (a.toNat + m.toNat > 255) := by
  have h := printedAddC_add_ofBool a m false
  rwa [add_clear_carry] at h

theorem printedSubC_sbc (a m : Byte) (cc : CC) :
    printedSubC a m (a - m - carryByte cc) = decide (m.toNat + cc.c.toNat > a.toNat) := by
  rw [carryByte_eq_ofBool, printedSubC_sub_ofBool]

theorem printedSubC_sub (a m : Byte) : printedSubC a m (a - m) = decide (m.toNat > a.toNat) := by
  have h := printedSubC_sub_ofBool a m false
  rwa [show a - m - (BitVec.ofBool false).setWidth 8 = a - m from BitVec.sub_zero _] at h

/-- A difference is zero when its operands are equal. -/
theorem printedZ_sub (a m : Byte) : printedZ (a - m) = decide (a = m) := by
  rw [Bool.eq_iff_iff, printedZ_eq_true_iff, decide_eq_true_iff]
  constructor <;> intro h <;> bv_omega

/-! ### The operations with their printed flags -/

theorem adcOp_eq_printed (a m : Byte) (cc : CC) :
    adcOp a m cc = (a + m + carryByte cc,
      { h := printedH a m (a + m + carryByte cc), i := cc.i, n := printedN (a + m + carryByte cc),
        z := printedZ (a + m + carryByte cc), c := printedAddC a m (a + m + carryByte cc) }) := by
  have hsum : BitVec.ofNat 8 (a.toNat + m.toNat + cc.c.toNat) = a + m + carryByte cc := by
    rw [BitVec.ofNat_add, BitVec.ofNat_add, carryByte_eq_ofNat]
    simp only [BitVec.ofNat_toNat, BitVec.setWidth_eq]
  simp only [adcOp, hsum, setNZ_eq_withNZ, withNZ, printedH_adc, printedAddC_adc]

theorem addOp_eq_printed (a m : Byte) (cc : CC) :
    addOp a m cc = (a + m,
      { h := printedH a m (a + m), i := cc.i, n := printedN (a + m), z := printedZ (a + m),
        c := printedAddC a m (a + m) }) := by
  have hsum : BitVec.ofNat 8 (a.toNat + m.toNat) = a + m := by
    rw [BitVec.ofNat_add]
    simp only [BitVec.ofNat_toNat, BitVec.setWidth_eq]
  simp only [addOp, hsum, setNZ_eq_withNZ, withNZ, printedH_add, printedAddC_add]

theorem subOp_eq_printed (a m : Byte) (cc : CC) :
    subOp a m cc = (a - m, withNZC cc (a - m) (printedSubC a m (a - m))) := by
  simp only [subOp, setNZ_eq_withNZ, withNZ, withNZC, printedSubC_sub]

theorem sbcOp_eq_printed (a m : Byte) (cc : CC) :
    sbcOp a m cc =
      (a - m - carryByte cc, withNZC cc (a - m - carryByte cc) (printedSubC a m (a - m - carryByte cc))) := by
  have hdiff : a - BitVec.ofNat 8 (m.toNat + cc.c.toNat) = a - m - carryByte cc := by
    rw [BitVec.ofNat_add, carryByte_eq_ofNat, BitVec.sub_sub]
    simp only [BitVec.ofNat_toNat, BitVec.setWidth_eq]
  simp only [sbcOp, hdiff, setNZ_eq_withNZ, withNZ, withNZC, printedSubC_sbc]

theorem andOp_eq_printed (a m : Byte) (cc : CC) : andOp a m cc = (a &&& m, withNZ cc (a &&& m)) := by
  rw [andOp, setNZ_eq_withNZ]

theorem eorOp_eq_printed (a m : Byte) (cc : CC) : eorOp a m cc = (a ^^^ m, withNZ cc (a ^^^ m)) := by
  rw [eorOp, setNZ_eq_withNZ]

theorem oraOp_eq_printed (a m : Byte) (cc : CC) : oraOp a m cc = (a ||| m, withNZ cc (a ||| m)) := by
  rw [oraOp, setNZ_eq_withNZ]

theorem loadOp_eq_printed (a m : Byte) (cc : CC) : loadOp a m cc = (m, withNZ cc m) := by
  rw [loadOp, setNZ_eq_withNZ]

/-! ### What is done with the operand, from the operation's result -/

section
variable {op : Byte → Byte → CC → Byte × CC} {result : Byte → Byte → CC → Byte} {flags : Byte → Byte → CC → CC}

/-- A takes the result's byte and the flags its flags, once the result is known. -/
theorem onA_eq (h : ∀ a m cc, op a m cc = (result a m cc, flags a m cc)) :
    onA op = fun m s => (s.setA (result s.a m s.cc)).setCc (flags s.a m s.cc) := by
  funext m s
  rw [onA, h]

theorem onX_eq (h : ∀ x m cc, op x m cc = (result x m cc, flags x m cc)) :
    onX op = fun m s => (s.setX (result s.x m s.cc)).setCc (flags s.x m s.cc) := by
  funext m s
  rw [onX, h]

/-- A comparison or test keeps the flags alone. -/
theorem testA_eq (h : ∀ a m cc, op a m cc = (result a m cc, flags a m cc)) :
    testA op = fun m s => s.setCc (flags s.a m s.cc) := by
  funext m s
  rw [testA, h]

theorem testX_eq (h : ∀ x m cc, op x m cc = (result x m cc, flags x m cc)) :
    testX op = fun m s => s.setCc (flags s.x m s.cc) := by
  funext m s
  rw [testX, h]

end

/-! ### The rows of the opcode map -/

/-- The register/memory instructions with an operand: memory forms, immediate form, low nibble of the opcode, and what is done
with the operand (`OperandRow.obeyOperand`). -/
inductive OperandRow : MemoryForms → (Byte → Instr) → Byte → (Byte → State → State) → Prop
  | sub : OperandRow ⟨.subDir, .subExt, .subIx2, .subIx1, .subIx⟩ .subImm 0x0 (onA subOp)
  | cmp : OperandRow ⟨.cmpDir, .cmpExt, .cmpIx2, .cmpIx1, .cmpIx⟩ .cmpImm 0x1 (testA subOp)
  | sbc : OperandRow ⟨.sbcDir, .sbcExt, .sbcIx2, .sbcIx1, .sbcIx⟩ .sbcImm 0x2 (onA sbcOp)
  | cpx : OperandRow ⟨.cpxDir, .cpxExt, .cpxIx2, .cpxIx1, .cpxIx⟩ .cpxImm 0x3 (testX subOp)
  | and : OperandRow ⟨.andDir, .andExt, .andIx2, .andIx1, .andIx⟩ .andImm 0x4 (onA andOp)
  | bit : OperandRow ⟨.bitDir, .bitExt, .bitIx2, .bitIx1, .bitIx⟩ .bitImm 0x5 (testA andOp)
  | lda : OperandRow ⟨.ldaDir, .ldaExt, .ldaIx2, .ldaIx1, .ldaIx⟩ .ldaImm 0x6 (onA loadOp)
  | eor : OperandRow ⟨.eorDir, .eorExt, .eorIx2, .eorIx1, .eorIx⟩ .eorImm 0x8 (onA eorOp)
  | adc : OperandRow ⟨.adcDir, .adcExt, .adcIx2, .adcIx1, .adcIx⟩ .adcImm 0x9 (onA adcOp)
  | ora : OperandRow ⟨.oraDir, .oraExt, .oraIx2, .oraIx1, .oraIx⟩ .oraImm 0xA (onA oraOp)
  | add : OperandRow ⟨.addDir, .addExt, .addIx2, .addIx1, .addIx⟩ .addImm 0xB (onA addOp)
  | ldx : OperandRow ⟨.ldxDir, .ldxExt, .ldxIx2, .ldxIx1, .ldxIx⟩ .ldxImm 0xE (onX loadOp)

/-- All rows of the register/memory columns: memory forms, low nibble, the direct form's cycles on HMOS and on CMOS, and what is
done in each addressing mode (`MemoryRow.obey`). -/
inductive MemoryRow : MemoryForms → Byte → Nat → Nat → (Mode → State → State) → Prop
  | operand {f : MemoryForms} {imm : Byte → Instr} {k : Byte} {go : Byte → State → State} (h : OperandRow f imm k go) :
      MemoryRow f k 4 3 fun mode s => withOperand mode go s
  | sta : MemoryRow ⟨.staDir, .staExt, .staIx2, .staIx1, .staIx⟩ 0x7 5 4 fun mode s => storeByte mode s.a s
  | jmp : MemoryRow ⟨.jmpDir, .jmpExt, .jmpIx2, .jmpIx1, .jmpIx⟩ 0xC 3 2 fun mode s => s.setPc (ea mode s)
  | jsr : MemoryRow ⟨.jsrDir, .jsrExt, .jsrIx2, .jsrIx1, .jsrIx⟩ 0xD 7 5 fun mode s => callTo (ea mode s) s
  | stx : MemoryRow ⟨.stxDir, .stxExt, .stxIx2, .stxIx1, .stxIx⟩ 0xF 5 4 fun mode s => storeByte mode s.x s

/-- Row by row, `exec`, the encoder and the cycle table hold each memory form under its mode, its column and its cycles. -/
theorem MemoryRow.obey {f : MemoryForms} {k : Byte} {h c : Nat} {effect : Mode → State → State}
    (row : MemoryRow f k h c effect) : f.Obey k h c effect := by
  rcases row with ⟨⟨⟩⟩ | ⟨⟩ | ⟨⟩ | ⟨⟩ | ⟨⟩ <;>
    exact ⟨fun _ _ => rfl, fun _ _ => rfl, fun _ _ => rfl, fun _ _ => rfl, fun _ => rfl,
      fun _ => rfl, fun _ => rfl, fun _ => rfl, fun _ => rfl, rfl,
      fun _ => ⟨rfl, rfl⟩, fun _ => ⟨rfl, rfl⟩, fun _ => ⟨rfl, rfl⟩, fun _ => ⟨rfl, rfl⟩, rfl, rfl⟩

/-- An instruction with an operand obeys its rules once what it does with the operand is known. -/
theorem OperandRow.obeyOperand {f : MemoryForms} {imm : Byte → Instr} {k : Byte} {go effect : Byte → State → State}
    (row : OperandRow f imm k go) (heffect : go = effect) : f.ObeyOperand imm k effect := by
  subst heffect
  refine ⟨(MemoryRow.operand row).obey, ?_⟩
  cases row <;> exact ⟨fun _ _ => rfl, fun _ => rfl, fun _ => ⟨rfl, rfl⟩⟩

/-! ### The obligations -/

/-- Settles O14: the operations give the printed flags, and the printed formulas are the carries out of bits 3 and 7. -/
theorem addInstructions : Obligations.AddInstructions :=
  ⟨OperandRow.adc.obeyOperand (onA_eq adcOp_eq_printed), OperandRow.add.obeyOperand (onA_eq addOp_eq_printed),
    fun a m cc => ⟨printedH_adc a m cc, printedAddC_adc a m cc, printedH_add a m, printedAddC_add a m⟩⟩

/-- Settles O15: the operations give the printed flags, and the printed formula is the borrow. -/
theorem subtractAndCompareInstructions : Obligations.SubtractAndCompareInstructions :=
  ⟨OperandRow.sub.obeyOperand (onA_eq subOp_eq_printed), OperandRow.sbc.obeyOperand (onA_eq sbcOp_eq_printed),
    OperandRow.cmp.obeyOperand (testA_eq subOp_eq_printed), OperandRow.cpx.obeyOperand (testX_eq subOp_eq_printed),
    fun a m cc => ⟨printedSubC_sub a m, printedSubC_sbc a m cc, printedZ_sub a m⟩⟩

/-- Settles O16: N and Z of the logical operations are the printed ones. -/
theorem logicInstructions : Obligations.LogicInstructions :=
  ⟨OperandRow.and.obeyOperand (onA_eq andOp_eq_printed), OperandRow.bit.obeyOperand (testA_eq andOp_eq_printed),
    OperandRow.eor.obeyOperand (onA_eq eorOp_eq_printed), OperandRow.ora.obeyOperand (onA_eq oraOp_eq_printed)⟩

/-- Settles O17: the operand is read at the address of the state before, and then replaces the register. -/
theorem loadInstructions : Obligations.LoadInstructions :=
  ⟨OperandRow.lda.obeyOperand (onA_eq loadOp_eq_printed), OperandRow.ldx.obeyOperand (onX_eq loadOp_eq_printed)⟩

/-- A store is one write, with N and Z from the byte written. -/
theorem storeByte_eq (mode : Mode) (v : Byte) (s : State) :
    storeByte mode v s = (memWrite s (ea mode s) v).setCc (withNZ s.cc v) := by
  rw [storeByte, setNZ_eq_withNZ]

/-- Settles O18: each form is one write, which in RAM stores the byte and keeps the others. -/
theorem storeInstructions : Obligations.StoreInstructions := by
  refine ⟨?sta, ?stx, fun mode s v b hram => content_memWrite_ram hram v b⟩
  case sta => simpa only [storeByte_eq] using MemoryRow.sta.obey
  case stx => simpa only [storeByte_eq] using MemoryRow.stx.obey

/-- Settles O19: JMP's row of the map. -/
theorem jumpInstruction : Obligations.JumpInstruction := MemoryRow.jmp.obey

/-! ### Calls (R36, R179, R249) -/

/-- A write changes the memory alone. -/
theorem memWrite_eq_setMem (s : State) (addr : Addr) (v : Byte) :
    memWrite s addr v = s.setMem (memWrite s addr v).mem := by
  obtain e | e := memWrite_cases s addr v <;> rw [e] <;> rfl

/-- A push changes the memory and SP alone. -/
theorem push_eq_setMem_setSp (v : Byte) (s : State) :
    push v s = (s.setMem (push v s).mem).setSp (spDown s.cfg s.sp) := by
  rw [push_mem, push, ← memWrite_eq_setMem]

/-- A call changes the memory, SP and the PC alone. -/
theorem callTo_eq_setMem_setSp_setPc (target : Addr) (s : State) :
    callTo target s = ((s.setMem (callTo target s).mem).setSp (spBelow s.cfg 2 s.sp)).setPc target := by
  rw [callTo, pushPc, push_eq_setMem_setSp, push_eq_setMem_setSp (pclByte s.pc) s]
  rfl

/-- Lying outside the slots of some pushes is lying outside each of them. -/
theorem outside_stackSlots_iff {c : Config} {b sp : Addr} {k : Nat} :
    Outside c b (stackSlots c k sp) ↔ ∀ j < k, trunc c b ≠ trunc c (spBelow c j sp) := by
  simp [Outside, stackSlots]

/-- With the stack in RAM a call leaves the return address in its two slots and every other byte alone. -/
theorem callStacked_callTo {s : State} (h : Inv s) (hram : StackIsRam s) (target : Addr) :
    CallStacked s (callTo target s) target := by
  obtain ⟨hpcl, hpch⟩ := content_callTo h hram target
  exact ⟨callTo_eq_setMem_setSp_setPc target s, hpcl, hpch,
    fun b hb => content_pushPc_other (outside_stackSlots_iff.2 hb)⟩

/-- Settles O20: JSR and BSR are the call to their target, which pushes the two bytes of the PC. -/
theorem callInstructions : Obligations.CallInstructions :=
  ⟨MemoryRow.jsr.obey, fun _ _ => rfl, fun target _ h hram => callStacked_callTo h hram target,
    fun _ => ⟨rfl, rfl, rfl⟩⟩

end Sys2Proof.Machine
end

section
/-! The read/modify/write instructions (R200 to R213): the shifts and rotates as rearrangements of bits, the other byte functions
as arithmetic on numbers, and the five forms of each instruction. -/

namespace Sys2Proof.Machine

/-! ### The two parts of a shifted byte

A byte shifted by one place is seven of its bits beside a zero; the bit moved in is OR-ed into the zero's place. -/

theorem shiftLeft_one_eq_append (v : Byte) : v <<< 1 = v.extractLsb' 0 7 ++ 0#1 :=
  BitVec.shiftLeft_eq_concat_of_lt (by decide)

theorem ushiftRight_one_eq_append (v : Byte) : v >>> 1 = 0#1 ++ v.extractLsb' 1 7 :=
  BitVec.ushiftRight_eq_extractLsb'_of_lt (by decide)

/-- The carry at bit 7, as ROR moves it in. -/
theorem carry_high_eq_append (c : Bool) : (if c then (0x80 : Byte) else 0) = BitVec.ofBool c ++ 0#7 := by
  cases c <;> rfl

/-- The carry at bit 0, as ROL moves it in. -/
theorem carry_low_eq_append (c : Bool) : (if c then (1 : Byte) else 0) = 0#7 ++ BitVec.ofBool c := by
  cases c <;> rfl

/-- Bit 7 alone, as ASR holds it. -/
theorem and_0x80_eq_append (v : Byte) : v &&& (0x80 : Byte) = v.extractLsb' 7 1 ++ 0#7 := by
  have hv : v.extractLsb' 7 1 ++ v.extractLsb' 0 7 = v := BitVec.extractLsb'_append_extractLsb'
  calc v &&& (0x80 : Byte)
    _ = (v.extractLsb' 7 1 ++ v.extractLsb' 0 7) &&& (BitVec.allOnes 1 ++ 0#7) := by rw [hv]; rfl
    _ = v.extractLsb' 7 1 ++ 0#7 := by rw [BitVec.and_append, BitVec.and_allOnes, BitVec.and_zero]

/-- A left shift by one with a bit OR-ed in below is the seven low bits over that bit. -/
theorem shiftLeft_one_or_low (v : Byte) (b : BitVec 1) : v <<< 1 ||| (0#7 ++ b) = v.extractLsb' 0 7 ++ b := by
  rw [shiftLeft_one_eq_append, BitVec.or_append, BitVec.or_zero, BitVec.zero_or]

/-- A right shift by one with a bit OR-ed in on top is that bit over the seven high bits. -/
theorem high_or_ushiftRight_one (v : Byte) (b : BitVec 1) : (b ++ 0#7) ||| v >>> 1 = b ++ v.extractLsb' 1 7 := by
  rw [ushiftRight_one_eq_append, BitVec.or_append, BitVec.or_zero, BitVec.zero_or]

/-! ### The shifts and rotates with their printed flags (R203, R208, R209, R211, R212) -/

theorem msb_eq_getLsbD_seven (v : Byte) : v.msb = v.getLsbD 7 := (printedN_eq_msb v).symm

theorem asrOp_eq_printed (v : Byte) (cc : CC) :
    asrOp v cc = (v.extractLsb' 7 1 ++ v.extractLsb' 1 7,
      withNZC cc (v.extractLsb' 7 1 ++ v.extractLsb' 1 7) (v.getLsbD 0)) := by
  simp only [asrOp, and_0x80_eq_append, high_or_ushiftRight_one, setNZ_eq_withNZ, withNZ, withNZC]

theorem lslOp_eq_printed (v : Byte) (cc : CC) :
    lslOp v cc = (v.extractLsb' 0 7 ++ 0#1, withNZC cc (v.extractLsb' 0 7 ++ 0#1) (v.getLsbD 7)) := by
  simp only [lslOp, shiftLeft_one_eq_append, msb_eq_getLsbD_seven, setNZ_eq_withNZ, withNZ, withNZC]

theorem lsrOp_eq_printed (v : Byte) (cc : CC) :
    lsrOp v cc = (0#1 ++ v.extractLsb' 1 7,
      { cc with n := false, z := printedZ (0#1 ++ v.extractLsb' 1 7), c := v.getLsbD 0 }) := by
  simp only [lsrOp, ushiftRight_one_eq_append, printedZ_eq_beq]

theorem rolOp_eq_printed (v : Byte) (cc : CC) :
    rolOp v cc = (v.extractLsb' 0 7 ++ BitVec.ofBool cc.c,
      withNZC cc (v.extractLsb' 0 7 ++ BitVec.ofBool cc.c) (v.getLsbD 7)) := by
  simp only [rolOp, carry_low_eq_append, shiftLeft_one_or_low, msb_eq_getLsbD_seven, setNZ_eq_withNZ, withNZ, withNZC]

theorem rorOp_eq_printed (v : Byte) (cc : CC) :
    rorOp v cc = (BitVec.ofBool cc.c ++ v.extractLsb' 1 7,
      withNZC cc (BitVec.ofBool cc.c ++ v.extractLsb' 1 7) (v.getLsbD 0)) := by
  simp only [rorOp, carry_high_eq_append, high_or_ushiftRight_one, setNZ_eq_withNZ, withNZ, withNZC]

/-! ### ROL as a rotation of nine bits (R211), N after ROR (R212) -/

/-- What ROL makes of the byte and C (`rolBits_eq_rolOp`). -/
def rolBits (p : Byte × Bool) : Byte × Bool := (p.1.extractLsb' 0 7 ++ BitVec.ofBool p.2, p.1.getLsbD 7)

theorem rolBits_eq_rolOp (v : Byte) (cc : CC) : rolBits (v, cc.c) = ((rolOp v cc).1, (rolOp v cc).2.c) := by
  rw [rolOp_eq_printed]
  rfl

/-- The byte with C above bit 7. -/
def carryOverByte (p : Byte × Bool) : BitVec 9 := BitVec.cons p.2 p.1

theorem carryOverByte_injective : Function.Injective carryOverByte := by
  intro p q h
  have hbyte := congrArg (BitVec.setWidth 8) h
  have hcarry := congrArg BitVec.msb h
  rw [carryOverByte, carryOverByte, BitVec.setWidth_cons, BitVec.setWidth_cons] at hbyte
  rw [carryOverByte, carryOverByte, BitVec.msb_cons, BitVec.msb_cons] at hcarry
  exact Prod.ext hbyte hcarry

theorem getLsbD_carryOverByte (p : Byte × Bool) (i : Nat) :
    (carryOverByte p).getLsbD i = if i = 8 then p.2 else p.1.getLsbD i :=
  BitVec.getLsbD_cons p.2 p.1 i

theorem getLsbD_rolBits_zero (p : Byte × Bool) : (rolBits p).1.getLsbD 0 = p.2 := by
  rw [rolBits, BitVec.getLsbD_append]
  simp

theorem getLsbD_rolBits_succ (p : Byte × Bool) {i : Nat} (hi : i < 7) :
    (rolBits p).1.getLsbD (i + 1) = p.1.getLsbD i := by
  rw [rolBits, BitVec.getLsbD_append]
  simp [hi]

/-- Bit by bit: C comes in at bit 0, bits 0 to 6 move up, and bit 7 becomes C. -/
theorem carryOverByte_rolBits (p : Byte × Bool) : carryOverByte (rolBits p) = (carryOverByte p).rotateLeft 1 := by
  apply BitVec.eq_of_getLsbD_eq
  intro i hi
  rw [BitVec.getLsbD_rotateLeft]
  simp only [getLsbD_carryOverByte]
  cases i with
  | zero => simpa using getLsbD_rolBits_zero p
  | succ j =>
    obtain hj | rfl : j < 7 ∨ j = 7 := by omega
    · have hlow : j ≠ 8 := by omega
      simp [getLsbD_rolBits_succ p hj, hi, hlow, hj.ne]
    · simp [rolBits]

theorem getMsbD_iterate_rotateLeft_one {w : Nat} (k : Nat) (x : BitVec w) {n : Nat} (hn : n < w) :
    ((·.rotateLeft 1)^[k] x).getMsbD n = x.getMsbD ((k + n) % w) := by
  induction k generalizing n with
  | zero => rw [Function.iterate_zero_apply, Nat.zero_add, Nat.mod_eq_of_lt hn]
  | succ k ih =>
    rw [Function.iterate_succ_apply', BitVec.getMsbD_rotateLeft, decide_eq_true hn, Bool.true_and,
      ih (Nat.mod_lt _ (Nat.zero_lt_of_lt hn)), Nat.add_mod_mod, Nat.add_assoc]

/-- As many rotations by one as there are bits come back to the start. -/
theorem iterate_rotateLeft_one_width {w : Nat} (x : BitVec w) : (·.rotateLeft 1)^[w] x = x := by
  apply BitVec.eq_of_getMsbD_eq
  intro n hn
  rw [getMsbD_iterate_rotateLeft_one w x hn, Nat.add_mod_left, Nat.mod_eq_of_lt hn]

theorem iterate_rolBits_nine (p : Byte × Bool) : rolBits^[9] p = p := by
  apply carryOverByte_injective
  have hsemi : Function.Semiconj carryOverByte rolBits (·.rotateLeft 1) := carryOverByte_rolBits
  rw [hsemi.iterate_right 9 p, iterate_rotateLeft_one_width]

/-- The bit that ROR moves in is bit 7 of its result. -/
theorem printedN_carry_append (c : Bool) (b : BitVec 7) : printedN (BitVec.ofBool c ++ b) = c := by
  rw [printedN_eq_msb, BitVec.msb_append]
  cases c <;> rfl

/-! ### NEG, COM, DEC, INC and CLR with their printed flags (R204 to R207, R210) -/

theorem zero_sub_eq_ofNat (v : Byte) : 0 - v = BitVec.ofNat 8 (256 - v.toNat) := by
  bv_omega

theorem xor_0xFF_eq_ofNat (v : Byte) : v ^^^ 0xFF = BitVec.ofNat 8 (255 - v.toNat) := by
  calc v ^^^ 0xFF
    _ = ~~~v := BitVec.xor_allOnes
    _ = BitVec.ofNat 8 (255 - v.toNat) := by bv_omega

theorem sub_one_eq_ofNat (v : Byte) : v - 1 = BitVec.ofNat 8 (v.toNat + 255) := by
  bv_omega

theorem add_one_eq_ofNat (v : Byte) : v + 1 = BitVec.ofNat 8 (v.toNat + 1) := by
  bv_omega

/-- The complement to 256 is zero for zero alone, so NEG's carry says that the byte was not zero. -/
theorem ofNat_complement_ne_zero (v : Byte) : (BitVec.ofNat 8 (256 - v.toNat) != 0) = decide (v.toNat ≠ 0) := by
  rw [← zero_sub_eq_ofNat, Bool.eq_iff_iff, bne_iff_ne, decide_eq_true_iff]
  constructor <;> intro h <;> bv_omega

theorem negOp_eq_printed (v : Byte) (cc : CC) :
    negOp v cc = (BitVec.ofNat 8 (256 - v.toNat),
      withNZC cc (BitVec.ofNat 8 (256 - v.toNat)) (decide (v.toNat ≠ 0))) := by
  simp only [negOp, zero_sub_eq_ofNat, ofNat_complement_ne_zero, setNZ_eq_withNZ, withNZ, withNZC]

theorem comOp_eq_printed (v : Byte) (cc : CC) :
    comOp v cc = (BitVec.ofNat 8 (255 - v.toNat), withNZC cc (BitVec.ofNat 8 (255 - v.toNat)) true) := by
  simp only [comOp, xor_0xFF_eq_ofNat, setNZ_eq_withNZ, withNZ, withNZC]

theorem decOp_eq_printed (v : Byte) (cc : CC) :
    decOp v cc = (BitVec.ofNat 8 (v.toNat + 255), withNZ cc (BitVec.ofNat 8 (v.toNat + 255))) := by
  rw [decOp, setNZ_eq_withNZ, sub_one_eq_ofNat]

theorem incOp_eq_printed (v : Byte) (cc : CC) :
    incOp v cc = (BitVec.ofNat 8 (v.toNat + 1), withNZ cc (BitVec.ofNat 8 (v.toNat + 1))) := by
  rw [incOp, setNZ_eq_withNZ, add_one_eq_ofNat]

/-! ### The rows of the opcode map -/

/-- The instructions that write their operand back: forms, low nibble of the opcode, and the function of the byte
(`ModifyRow.obeyModify`). ASL is LSL's second name. -/
inductive ModifyRow : RmwForms → Byte → (Byte → CC → Byte × CC) → Prop
  | neg : ModifyRow ⟨.negDir, .nega, .negx, .negIx1, .negIx⟩ 0x0 negOp
  | com : ModifyRow ⟨.comDir, .coma, .comx, .comIx1, .comIx⟩ 0x3 comOp
  | lsr : ModifyRow ⟨.lsrDir, .lsra, .lsrx, .lsrIx1, .lsrIx⟩ 0x4 lsrOp
  | ror : ModifyRow ⟨.rorDir, .rora, .rorx, .rorIx1, .rorIx⟩ 0x6 rorOp
  | asr : ModifyRow ⟨.asrDir, .asra, .asrx, .asrIx1, .asrIx⟩ 0x7 asrOp
  | lsl : ModifyRow ⟨.lslDir, .lsla, .lslx, .lslIx1, .lslIx⟩ 0x8 lslOp
  | asl : ModifyRow ⟨.aslDir, .asla, .aslx, .aslIx1, .aslIx⟩ 0x8 lslOp
  | rol : ModifyRow ⟨.rolDir, .rola, .rolx, .rolIx1, .rolIx⟩ 0x9 rolOp
  | dec : ModifyRow ⟨.decDir, .deca, .decx, .decIx1, .decIx⟩ 0xA decOp
  | inc : ModifyRow ⟨.incDir, .inca, .incx, .incIx1, .incIx⟩ 0xC incOp
  | clr : ModifyRow ⟨.clrDir, .clra, .clrx, .clrIx1, .clrIx⟩ 0xF clrOp

/-- All rows of the read/modify/write columns: forms, low nibble, the direct form's cycles on CMOS, and what is done to memory,
to A and to X (`RmwRow.obey`). -/
inductive RmwRow : RmwForms → Byte → Nat → (Mode → State → State) → (State → State) → (State → State) → Prop
  | modify {f : RmwForms} {k : Byte} {op : Byte → CC → Byte × CC} (h : ModifyRow f k op) :
      RmwRow f k 5 (fun mode s => rmwMem mode op s) (rmwA op) (rmwX op)
  | tst : RmwRow ⟨.tstDir, .tsta, .tstx, .tstIx1, .tstIx⟩ 0xD 4 (fun mode s => withOperand mode tstFlags s)
      (fun s => tstFlags s.a s) (fun s => tstFlags s.x s)

/-- Row by row, `exec`, the encoder and the cycle table hold each form under its place, its column and its cycles. -/
theorem RmwRow.obey {f : RmwForms} {k : Byte} {c : Nat} {onMem : Mode → State → State} {onRegA onRegX : State → State}
    (row : RmwRow f k c onMem onRegA onRegX) : f.Obey k c onMem onRegA onRegX := by
  rcases row with ⟨⟨⟩⟩ | ⟨⟩ <;>
    exact ⟨fun _ _ => rfl, fun _ => rfl, fun _ => rfl, fun _ _ => rfl, fun _ => rfl,
      fun _ => rfl, rfl, rfl, fun _ => rfl, rfl,
      fun _ => ⟨rfl, rfl⟩, ⟨rfl, rfl⟩, ⟨rfl, rfl⟩, fun _ => ⟨rfl, rfl⟩, rfl, rfl⟩

/-- A memory form is one read and one write of the same address; the read leaves the flags that the byte function sees. -/
theorem rmwMem_eq (mode : Mode) (op : Byte → CC → Byte × CC) (s : State) :
    rmwMem mode op s =
      (memWrite (afterRead s (ea mode s)) (ea mode s) (op (readByte s (ea mode s)) s.cc).1).setCc
        (op (readByte s (ea mode s)) s.cc).2 := by
  simp only [rmwMem, memRead, afterRead_cc]

/-- An instruction that writes its operand back obeys its rules once its function of the byte is known. -/
theorem ModifyRow.obeyModify {f : RmwForms} {k : Byte} {op result : Byte → CC → Byte × CC} (row : ModifyRow f k op)
    (h : ∀ v cc, op v cc = result v cc) : f.ObeyModify k result := by
  obtain rfl : op = result := funext₂ h
  have hobey := (RmwRow.modify row).obey
  simp only [rmwMem_eq] at hobey
  exact hobey

/-! ### The obligations -/

/-- Settles O21: each shift or rotate is a rearrangement of the byte's bits and C; ROL rotates nine bits. -/
theorem shiftAndRotateInstructions : Obligations.ShiftAndRotateInstructions :=
  ⟨ModifyRow.asr.obeyModify asrOp_eq_printed, ModifyRow.lsl.obeyModify lslOp_eq_printed,
    ModifyRow.asl.obeyModify lslOp_eq_printed, ModifyRow.lsr.obeyModify lsrOp_eq_printed,
    ModifyRow.rol.obeyModify rolOp_eq_printed, ModifyRow.ror.obeyModify rorOp_eq_printed,
    fun v c => ⟨iterate_rolBits_nine (v, c), printedN_carry_append c _⟩⟩

/-- Settles O22: the byte functions are the arithmetic of their rules. -/
theorem arithmeticModifyInstructions : Obligations.ArithmeticModifyInstructions :=
  ⟨ModifyRow.neg.obeyModify negOp_eq_printed, ModifyRow.com.obeyModify comOp_eq_printed,
    ModifyRow.dec.obeyModify decOp_eq_printed, ModifyRow.inc.obeyModify incOp_eq_printed,
    ModifyRow.clr.obeyModify fun _ _ => rfl⟩

/-- Settles O23: TST is the flags of a byte after one read, and has no write. -/
theorem testInstruction : Obligations.TestInstruction := by
  have hobey := RmwRow.tst.obey
  simp only [withOperand_eq, tstFlags, setNZ_eq_withNZ, afterRead_cc] at hobey
  exact hobey

end Sys2Proof.Machine
end

section
/-! The two-byte branches (R230 to R248): each branch's row of the opcode map, the conditions as the rules state them, and what
the flags of a comparison say of the numbers compared. -/

namespace Sys2Proof.Machine

/-! ### The rows of the opcode map -/

/-- The two-byte branches: constructor, opcode, and the instruction whose condition (`BranchOp`) it tests (`BranchRow.obeys`).
BHS and BLO are second names of BCC and BCS (R102). -/
inductive BranchRow : (Byte → Instr) → Byte → Op → Prop
  | bra : BranchRow .bra 0x20 .bra
  | brn : BranchRow .brn 0x21 .brn
  | bhi : BranchRow .bhi 0x22 .bhi
  | bls : BranchRow .bls 0x23 .bls
  | bcc : BranchRow .bcc 0x24 .bcc
  | bhs : BranchRow .bhs 0x24 .bcc
  | bcs : BranchRow .bcs 0x25 .bcs
  | blo : BranchRow .blo 0x25 .bcs
  | bne : BranchRow .bne 0x26 .bne
  | beq : BranchRow .beq 0x27 .beq
  | bhcc : BranchRow .bhcc 0x28 .bhcc
  | bhcs : BranchRow .bhcs 0x29 .bhcs
  | bpl : BranchRow .bpl 0x2A .bpl
  | bmi : BranchRow .bmi 0x2B .bmi
  | bmc : BranchRow .bmc 0x2C .bmc
  | bms : BranchRow .bms 0x2D .bms
  | bil : BranchRow .bil 0x2E .bil
  | bih : BranchRow .bih 0x2F .bih

section
variable {mk : Byte → Instr} {code : Byte} {op : Op}

theorem BranchRow.exec_eq (row : BranchRow mk code op) {test : State → Bool} (hop : BranchOp op test) (r : Byte) (s : State) :
    exec (mk r) s = .next (branchIf (test s) r s) := by
  cases row <;> cases hop <;> rfl

theorem BranchRow.encode_eq (row : BranchRow mk code op) (r : Byte) : encode (mk r) = [code, r] := by
  cases row <;> rfl

theorem BranchRow.cycles_eq (row : BranchRow mk code op) (r : Byte) :
    cyclesOf .hmos (mk r) = 4 ∧ cyclesOf .cmos (mk r) = 3 := by
  cases row <;> exact ⟨rfl, rfl⟩

theorem branchIf_true (r : Byte) (s : State) : branchIf true r s = s.setPc (relTarget r s) := rfl

theorem branchIf_false (r : Byte) (s : State) : branchIf false r s = s := rfl

/-- A branch obeys its rules once the test it makes is known to be the condition the rules state. -/
theorem BranchRow.obeys (row : BranchRow mk code op) {test : State → Bool} (hop : BranchOp op test) {cond : State → Prop}
    (htest : ∀ s, test s = true ↔ cond s) : BranchObeys mk code cond := by
  refine ⟨?taken, ?notTaken, row.encode_eq, row.cycles_eq⟩
  case taken =>
    intro r s hcond
    rw [row.exec_eq hop, (htest s).2 hcond, branchIf_true]
  case notTaken =>
    intro r s hcond
    rw [row.exec_eq hop, Bool.eq_false_iff.2 (mt (htest s).1 hcond), branchIf_false]

/-- A branch that tests one bit of the state branches when it is set. -/
theorem BranchRow.obeys_set (row : BranchRow mk code op) {bit : State → Bool} (hop : BranchOp op bit) :
    BranchObeys mk code fun s => bit s = true :=
  row.obeys hop fun _ => Iff.rfl

/-- A branch that tests the complement of one bit of the state branches when it is clear. -/
theorem BranchRow.obeys_clear (row : BranchRow mk code op) {bit : State → Bool} (hop : BranchOp op fun s => !bit s) :
    BranchObeys mk code fun s => bit s = false :=
  row.obeys hop fun s => iff_of_eq (Bool.not_eq_true' (bit s))

end

/-! ### The conditions on C and Z together (R236, R241) -/

theorem higher_eq_true_iff (cc : CC) : higher cc = true ↔ cc.c = false ∧ cc.z = false := by
  rw [higher, Bool.and_eq_true, Bool.not_eq_true', Bool.not_eq_true']

theorem not_higher_eq_true_iff (cc : CC) : (!higher cc) = true ↔ cc.c = true ∨ cc.z = true := by
  rw [higher, Bool.not_and, Bool.not_not, Bool.not_not, Bool.or_eq_true]

/-! ### The flags of a comparison (R175, R183)

`subOp` is the operation SUB, CMP and CPX share. Its C is the unsigned borrow and its Z the equality, so the conditions on them
are the unsigned orders. -/

section
variable (a m : Byte) (cc : CC)

theorem subOp_c_eq_true_iff : (subOp a m cc).2.c = true ↔ a.toNat < m.toNat := by
  rw [subOp_eq_printed, withNZC, printedSubC_sub, decide_eq_true_iff]

theorem subOp_z_eq_true_iff : (subOp a m cc).2.z = true ↔ a = m := by
  rw [subOp_eq_printed, withNZC, printedZ_sub, decide_eq_true_iff]

theorem subOp_c_eq_false_iff : (subOp a m cc).2.c = false ↔ a.toNat ≥ m.toNat := by
  rw [← Bool.not_eq_true, subOp_c_eq_true_iff, Nat.not_lt]

theorem subOp_z_eq_false_iff : (subOp a m cc).2.z = false ↔ a ≠ m := by
  rw [← Bool.not_eq_true, subOp_z_eq_true_iff]

/-- BLS after a comparison: lower or the same. -/
theorem subOp_lowerOrSame_iff :
    ((subOp a m cc).2.c = true ∨ (subOp a m cc).2.z = true) ↔ a.toNat ≤ m.toNat := by
  rw [subOp_c_eq_true_iff, subOp_z_eq_true_iff, ← BitVec.toNat_inj, Nat.le_iff_lt_or_eq]

/-- BHI after a comparison: higher, which is not lower or the same. -/
theorem subOp_higher_iff :
    ((subOp a m cc).2.c = false ∧ (subOp a m cc).2.z = false) ↔ a.toNat > m.toNat := by
  rw [gt_iff_lt, ← Nat.not_le, ← subOp_lowerOrSame_iff a m cc, not_or, Bool.not_eq_true, Bool.not_eq_true]

end

/-! ### The obligations -/

/-- Settles O24: the tests are the stated conditions on C and Z, and a comparison's C and Z are the unsigned order. -/
theorem carryAndZeroBranches : Obligations.CarryAndZeroBranches := by
  refine ⟨BranchRow.bhi.obeys .bhi fun s => higher_eq_true_iff s.cc,
    BranchRow.bls.obeys .bls fun s => not_higher_eq_true_iff s.cc,
    BranchRow.bcc.obeys_clear .bcc, BranchRow.bhs.obeys_clear .bcc,
    BranchRow.bcs.obeys_set .bcs, BranchRow.blo.obeys_set .bcs,
    BranchRow.bne.obeys_clear .bne, BranchRow.beq.obeys_set .beq, ?compared⟩
  case compared =>
    intro a m cc f hf
    obtain rfl : f = (subOp a m cc).2 := by rw [hf, subOp_eq_printed]
    exact ⟨subOp_higher_iff a m cc, subOp_lowerOrSame_iff a m cc, subOp_c_eq_false_iff a m cc,
      subOp_c_eq_true_iff a m cc, subOp_z_eq_true_iff a m cc, subOp_z_eq_false_iff a m cc⟩

/-- Settles O25: each branch tests one bit of the flags or the level of the pin; BRA and BRN test nothing. -/
theorem otherBranches : Obligations.OtherBranches :=
  ⟨BranchRow.bra.obeys .bra fun _ => iff_true_intro rfl,
    BranchRow.brn.obeys .brn fun _ => iff_false_intro Bool.false_ne_true,
    BranchRow.bhcc.obeys_clear .bhcc, BranchRow.bhcs.obeys_set .bhcs,
    BranchRow.bpl.obeys_clear .bpl, BranchRow.bmi.obeys_set .bmi,
    BranchRow.bmc.obeys_clear .bmc, BranchRow.bms.obeys_set .bms,
    BranchRow.bil.obeys_clear .bil, BranchRow.bih.obeys_set .bih⟩

end Sys2Proof.Machine
end

section
/-! The bit manipulation instructions (R260 to R264): the one bit a mask holds, the byte that BSET and BCLR write back, and the two
outcomes of a test branch. -/

namespace Sys2Proof.Machine

/-! ### One bit of a byte (R260) -/

theorem bitMask_getLsbD (n : BitVec 3) (k : Nat) : (bitMask n).getLsbD k = decide (k = n.toNat) := by
  have hn : n.toNat < 8 := n.isLt
  calc (bitMask n).getLsbD k
      = (BitVec.twoPow 8 n.toNat).getLsbD k := rfl
    _ = decide (k = n.toNat) := by simp only [BitVec.getLsbD_twoPow, hn, decide_true, Bool.true_and, eq_comm]

/-- BSET's function of the byte sets bit n and keeps the others. -/
theorem or_bitMask_getLsbD (v : Byte) (n : BitVec 3) (k : Nat) :
    (v ||| bitMask n).getLsbD k = (decide (k = n.toNat) || v.getLsbD k) := by
  rw [BitVec.getLsbD_or, bitMask_getLsbD, Bool.or_comm]

/-- BCLR's function of the byte clears bit n and keeps the others. -/
theorem and_not_bitMask_getLsbD (v : Byte) (n : BitVec 3) {k : Nat} (hk : k < 8) :
    (v &&& ~~~(bitMask n)).getLsbD k = (!decide (k = n.toNat) && v.getLsbD k) := by
  rw [BitVec.getLsbD_and, BitVec.getLsbD_not, bitMask_getLsbD, decide_eq_true hk, Bool.true_and, Bool.and_comm]

/-! ### The rows of the opcode map (R95) -/

/-- The opcode of a bit instruction as a number: the row's base plus twice the bit number. -/
theorem bitOpcode_eq_ofNat (base : Nat) (n : BitVec 3) :
    bitOpcode (BitVec.ofNat 8 base) n = BitVec.ofNat 8 (base + 2 * n.toNat) := by
  rw [bitOpcode, BitVec.ofNat_add, BitVec.ofNat_mul, BitVec.ofNat_toNat]
  rfl

/-! ### One byte read and written back (R261, R264, decision D9) -/

section
variable {d : Byte} {s : State} (change : Byte → Byte)

/-- In RAM the read changes nothing, so only the write of the changed content is left. -/
theorem modifyBit_ram (h : kindAt s (ea (.dir d) s) = .ram) :
    modifyBit d change s = memWrite s (ea (.dir d) s) (change (content s (ea (.dir d) s))) := by
  rw [modifyBit, memRead, readByte_memory (.inl h), afterRead_memory (.inl h)]

theorem modifyBit_eq_setMem (h : kindAt s (ea (.dir d) s) = .ram) :
    modifyBit d change s = s.setMem (modifyBit d change s).mem := by
  rw [modifyBit_ram change h, ← memWrite_eq_setMem]

theorem content_modifyBit_same (h : kindAt s (ea (.dir d) s) = .ram) :
    content (modifyBit d change s) (ea (.dir d) s) = change (content s (ea (.dir d) s)) := by
  rw [modifyBit_ram change h, content_memWrite_stored (.inl h)]

end

/-! ### The test branches (R262, R263) -/

@[simp] theorem relTarget_setCc (r : Byte) (s : State) (cc : CC) : relTarget r (s.setCc cc) = relTarget r s := rfl

/-- Reading the tested byte does not move the branch's target. -/
@[simp] theorem relTarget_afterRead (r : Byte) (s : State) (addr : Addr) :
    relTarget r (afterRead s addr) = relTarget r s := by
  rw [relTarget, afterRead_cfg, afterRead_pc, relTarget]

section
variable {n : BitVec 3} {d : Byte} {s : State} {want : Bool}

/-- The tested bit is the wanted one: C takes it, and the PC goes to the target computed before. -/
theorem branchOnBit_taken (r : Byte) (h : (readByte s (ea (.dir d) s)).getLsbD n.toNat = want) :
    branchOnBit n d r want s =
      ((afterRead s (ea (.dir d) s)).setCc { s.cc with c := want }).setPc (relTarget r s) := by
  rw [branchOnBit, memRead_fst, memRead_snd, afterRead_cc, h, beq_self_eq_true, branchIf_true,
    relTarget_setCc, relTarget_afterRead]

/-- The tested bit is the other one: C takes it, and the PC stays at the next instruction. -/
theorem branchOnBit_notTaken (r : Byte) (h : (readByte s (ea (.dir d) s)).getLsbD n.toNat = !want) :
    branchOnBit n d r want s = (afterRead s (ea (.dir d) s)).setCc { s.cc with c := !want } := by
  rw [branchOnBit, memRead_fst, memRead_snd, afterRead_cc, h, Bool.not_beq_self, branchIf_false]

end

/-! ### The obligations -/

/-- Settles O26: BSET writes the byte back with the mask's one bit joined in. -/
theorem bitSetInstruction : Obligations.BitSetInstruction := by
  refine ⟨fun _ _ _ => rfl, fun n d s h => ?ram, fun n d => ⟨?bytes, rfl, rfl⟩⟩
  case ram =>
    refine ⟨_, rfl, modifyBit_eq_setMem _ h, fun k _ => ?bits, fun b hb => content_modifyBit_other _ hb⟩
    case bits => rw [content_modifyBit_same _ h, or_bitMask_getLsbD]
  case bytes => exact congrArg ([·, d]) (bitOpcode_eq_ofNat 0x10 n)

/-- Settles O27: BCLR writes the byte back with the mask's one bit taken out. -/
theorem bitClearInstruction : Obligations.BitClearInstruction := by
  refine ⟨fun _ _ _ => rfl, fun n d s h => ?ram, fun n d => ⟨?bytes, rfl, rfl⟩⟩
  case ram =>
    refine ⟨_, rfl, modifyBit_eq_setMem _ h, fun k hk => ?bits, fun b hb => content_modifyBit_other _ hb⟩
    case bits => rw [content_modifyBit_same _ h, and_not_bitMask_getLsbD _ n hk]
  case bytes => exact congrArg ([·, d]) (bitOpcode_eq_ofNat 0x11 n)

/-- Settles O28: each value of the tested bit is the wanted one for one of the two branches and not for the other. -/
theorem bitTestBranches : Obligations.BitTestBranches := by
  refine ⟨fun n d r s hset => ?set, fun n d r s hclear => ?clear, fun n d r => ⟨?brset, ?brclr, rfl, rfl, rfl, rfl⟩⟩
  case set => exact ⟨congrArg _ (branchOnBit_taken r hset), congrArg _ (branchOnBit_notTaken r hset)⟩
  case clear => exact ⟨congrArg _ (branchOnBit_notTaken r hclear), congrArg _ (branchOnBit_taken r hclear)⟩
  case brset =>
    have hop : bitOpcode 0x00 n = BitVec.ofNat 8 (2 * n.toNat) := by simpa using bitOpcode_eq_ofNat 0x00 n
    exact congrArg ([·, d, r]) hop
  case brclr => exact congrArg ([·, d, r]) (bitOpcode_eq_ofNat 0x01 n)

end Sys2Proof.Machine
end

section
/-! What a boundary chooses and what the step then is (R305, R309): the order of the events, each step that runs no instruction as
an equation, and the ways out of STOP and WAIT with the cycles they count. -/

namespace Sys2Proof.Machine

/-! ### The order of the events (R305, R309) -/

/-- No maskable interrupt is taken here: I is set, or there is no request. -/
def NoInterrupt (s : State) : Prop := s.cc.i = true ∨ (s.pendExt = false ∧ pendTimer s = false)

section
variable {s : State}

theorem chooseEvent_reset (s : State) : chooseEvent true s = .reset := rfl

theorem chooseEvent_ext (hi : s.cc.i = false) (hext : s.pendExt = true) : chooseEvent false s = .interrupt .ext := by
  simp [chooseEvent, hi, hext]

theorem chooseEvent_timer (hi : s.cc.i = false) (hext : s.pendExt = false) (htimer : pendTimer s = true) :
    chooseEvent false s = .interrupt .timer := by
  simp [chooseEvent, hi, hext, htimer]

theorem chooseEvent_instruction (h : NoInterrupt s) (hr : s.runState = .running) :
    chooseEvent false s = .instruction := by
  rcases h with hi | ⟨hext, htimer⟩
  · simp [chooseEvent, hi, hr]
  · simp [chooseEvent, hext, htimer, hr]

theorem chooseEvent_idle (h : NoInterrupt s) (hr : s.runState ≠ .running) : chooseEvent false s = .idle := by
  cases hs : s.runState with
  | running => exact absurd hs hr
  | stopped | waiting =>
    rcases h with hi | ⟨hext, htimer⟩
    · simp [chooseEvent, hi, hs]
    · simp [chooseEvent, hext, htimer, hs]

/-- With I set a boundary takes no interrupt. -/
theorem chooseEvent_ne_interrupt (hi : s.cc.i = true) (reset : Bool) (src : Source) :
    chooseEvent reset s ≠ .interrupt src := by
  cases reset with
  | true => rw [chooseEvent_reset]; exact nofun
  | false =>
    by_cases hr : s.runState = .running
    · rw [chooseEvent_instruction (.inl hi) hr]; exact nofun
    · rw [chooseEvent_idle (.inl hi) hr]; exact nofun

/-! ### The step of each event -/

theorem step_of_reset (h : resetAsserted s = true) : step s = .next (resetStep (sampleInputs s)) := by
  simp only [step, h, chooseEvent_reset]

theorem step_of_interrupt {src : Source} (h : chooseEvent (resetAsserted s) (sampleInputs s) = .interrupt src) :
    step s = .next (interruptStep src (sampleInputs s)) := by
  simp only [step, h]

theorem step_of_instruction (h : chooseEvent (resetAsserted s) (sampleInputs s) = .instruction) :
    step s = runInstruction (sampleInputs s) := by
  simp only [step, h]

theorem step_of_idle (h : chooseEvent (resetAsserted s) (sampleInputs s) = .idle) : step s = .next (sampleInputs s) := by
  simp only [step, h]

/-! ### The cycles of an entry and of a reset (R279, R362) -/

theorem restartDelay_eq_stopDelay (s : State) : restartDelay s = stopDelay s := by
  unfold stopDelay
  split
  · next h => exact restartDelay_stopped h
  · next h => exact restartDelay_not_stopped h

theorem resetStep_eq (s : State) :
    resetStep s = (takeReset s).setCycles (s.cycles + (Config.cyclesReset s.cfg + stopDelay s)) := by
  rw [resetStep, addCycles, takeReset_cycles, restartDelay_eq_stopDelay]

theorem interruptStep_eq (src : Source) (s : State) : interruptStep src s = (interruptEntry src s).setCycles
    (s.cycles + (Config.interruptLatency s.cfg + Config.cyclesIntEntry s.cfg + stopDelay s)) := by
  rw [interruptStep, addCycles, interruptEntry_cycles, restartDelay_eq_stopDelay]

end

/-- Settles O10: each clause's premises choose the event, and the event is the step. -/
theorem boundaryEvents : Obligations.BoundaryEvents := by
  rintro s _ rfl
  refine ⟨fun hreset => ?reset, fun hreset hi hext => ?ext, fun hreset hi hext htimer => ?timer,
    fun hreset hno hr => ?instruction, fun hreset hno hr => ?idle⟩
  case reset => rw [step_of_reset hreset, resetStep_eq]
  case ext => rw [step_of_interrupt (hreset ▸ chooseEvent_ext hi hext), interruptStep_eq]
  case timer => rw [step_of_interrupt (hreset ▸ chooseEvent_timer hi hext htimer), interruptStep_eq]
  case instruction => exact step_of_instruction (hreset ▸ chooseEvent_instruction hno hr)
  case idle => exact step_of_idle (hreset ▸ chooseEvent_idle hno hr)

/-! ### Out of STOP and WAIT (R279, R283, R315) -/

/-- STOPPED has no timer request, so a low-power state that has one is WAITING. -/
theorem Inv.waiting_of_pendTimer {s : State} (h : Inv s) (hlow : s.runState ≠ .running) (htimer : pendTimer s = true) :
    s.runState = .waiting := by
  cases hr : s.runState with
  | running => exact absurd hr hlow
  | waiting => rfl
  | stopped => simp [h.stoppedNoTimer hr] at htimer

/-- Settles O41: the low-power states are unmasked, so the requests alone choose the event. -/
theorem lowPowerWakeUp : Obligations.LowPowerWakeUp := by
  intro s t hinv hlow h
  have hs := hinv.sampleInputs
  have hlow' : (sampleInputs s).runState ≠ .running := by rwa [sampleInputs_runState]
  have hi := hs.lowPowerUnmasked hlow'
  cases hreset : resetAsserted s with
  | true =>
    rw [step_of_reset hreset] at h
    cases h
    exact .inl ⟨rfl, rfl, resetStep_runState _⟩
  | false =>
    cases hext : (sampleInputs s).pendExt with
    | true =>
      rw [step_of_interrupt (hreset ▸ chooseEvent_ext hi hext)] at h
      cases h
      exact .inr (.inl ⟨rfl, rfl, rfl, interruptStep_runState _ _⟩)
    | false =>
      cases htimer : pendTimer (sampleInputs s) with
      | true =>
        have hwait : s.runState = .waiting := (sampleInputs_runState s).symm.trans (hs.waiting_of_pendTimer hlow' htimer)
        rw [step_of_interrupt (hreset ▸ chooseEvent_timer hi hext htimer)] at h
        cases h
        exact .inr (.inr (.inl ⟨rfl, hwait, rfl, rfl, rfl, interruptStep_runState _ _⟩))
      | false =>
        rw [step_of_idle (hreset ▸ chooseEvent_idle (.inr ⟨hext, htimer⟩) hlow')] at h
        cases h
        exact .inr (.inr (.inr ⟨rfl, rfl, rfl, rfl, sampleInputs_runState s⟩))

/-- Settles O60: an entry and a reset count the delay out of STOPPED and out of no other state, and STOPPED takes no
instruction. -/
theorem stopRestartDelay : Obligations.StopRestartDelay := by
  refine ⟨fun s t hstop h => ?stopped, fun s t hrun hreset h => ?reset, fun s t src hrun hev h => ?interrupt⟩
  case stopped =>
    have hstop' : (sampleInputs s).runState = .stopped := (sampleInputs_runState s).trans hstop
    have hdelay := restartDelay_stopped hstop'
    obtain ⟨-, rfl⟩ | ⟨src, -, rfl⟩ | ⟨hev, -⟩ | ⟨-, rfl⟩ := step_cases h
    · refine .inr ⟨resetStep_runState _, ?_⟩
      rw [resetStep_cycles, sampleInputs_cycles, hdelay]
      omega
    · refine .inr ⟨interruptStep_runState _ _, ?_⟩
      rw [interruptStep_cycles, sampleInputs_cycles, hdelay]
      omega
    · rw [running_of_chooseEvent hev] at hstop'
      cases hstop'
    · exact .inl ⟨hstop', sampleInputs_cycles s⟩
  case reset =>
    rw [step_of_reset hreset] at h
    cases h
    rw [resetStep_cycles, restartDelay_not_stopped (by rwa [sampleInputs_runState]), sampleInputs_cycles,
      sampleInputs_cfg, Nat.add_zero]
  case interrupt =>
    rw [step_of_interrupt hev] at h
    cases h
    rw [interruptStep_cycles, restartDelay_not_stopped (by rwa [sampleInputs_runState]), sampleInputs_cycles,
      sampleInputs_cfg, Nat.add_zero]

end Sys2Proof.Machine
end

section
/-! Pushes and pulls in a row: where SP stands after some of them, what the slots of a stack in RAM then hold, and what pulling
them back gives. -/

namespace Sys2Proof.Machine

/-! ### SP after some pushes and pulls (R34, R35) -/

/-- One push, then some more. -/
theorem spBelow_spDown (c : Config) (k : Nat) (sp : Addr) : spBelow c k (spDown c sp) = spBelow c (k + 1) sp := by
  induction k with
  | zero => rfl
  | succ k ih => rw [spBelow, ih]; rfl

section
variable {c : Config} (hc : c.wf) {sp : Addr} (h : SpInRange c sp)
include hc h

theorem SpInRange.spBelow (k : Nat) : SpInRange c (spBelow c k sp) := by
  induction k with
  | zero => exact h
  | succ k ih => exact ih.spDown hc

theorem SpInRange.spAbove (k : Nat) : SpInRange c (spAbove c k sp) := by
  induction k with
  | zero => exact h
  | succ k ih => exact ih.spUp hc

/-- Pulls take back the last pushes. -/
theorem spAbove_spBelow (j k : Nat) : spAbove c j (spBelow c (k + j) sp) = spBelow c k sp := by
  induction j generalizing k with
  | zero => rfl
  | succ j ih =>
    rw [spAbove, show k + (j + 1) = (k + 1) + j by omega, ih, spBelow, spUp_spDown hc (h.spBelow hc k)]

/-- SP after no more pushes than the stack area has locations, wrapped round its bottom (R32). -/
theorem spBelow_toNat {k : Nat} (hk : k ≤ 2 ^ c.spBits) : (spBelow c k sp).toNat =
    if stackLow c + k ≤ sp.toNat then sp.toNat - k else sp.toNat + 2 ^ c.spBits - k := by
  have hP : 2 ^ c.spBits ≤ 2 ^ 7 := Nat.pow_le_pow_right (by decide) (spBits_le hc)
  have hlow : stackLow c = 0x80 - 2 ^ c.spBits := rfl
  obtain ⟨hmin, hmax⟩ := id h
  induction k with
  | zero => simp [spBelow, hmin]
  | succ k ih =>
    have ih := ih (by omega)
    rw [spBelow, spDown_toNat hc (h.spBelow hc k)]
    split at ih <;> split <;> split <;> omega

/-- The slots of at most as many pushes as the stack area has locations are distinct. -/
theorem spBelow_ne {j k : Nat} (hjk : j < k) (hk : k < 2 ^ c.spBits) : spBelow c j sp ≠ spBelow c k sp := by
  intro e
  have hj := spBelow_toNat hc h (k := j) (by omega)
  have hk' := spBelow_toNat hc h (k := k) (by omega)
  rw [e] at hj
  split at hj <;> split at hk' <;> omega

end

/-! ### Pushing some bytes onto a stack in RAM -/

theorem StackIsRam.kindAt {s : State} (hram : StackIsRam s) {sp : Addr} (h : SpInRange s.cfg sp) : kindAt s sp = .ram :=
  hram sp h.1 h.2

/-- What the stack is made of depends on the member alone. -/
theorem StackIsRam.congr {s t : State} (hram : StackIsRam s) (hcfg : t.cfg = s.cfg) : StackIsRam t := by
  intro addr hlow hhigh
  rw [kindAt_congr hcfg]
  exact hram addr (hcfg ▸ hlow) hhigh

/-- Push some bytes, the first one first. -/
def pushAll (vs : List Byte) (s : State) : State := vs.foldl (fun t v => push v t) s

theorem pushAll_cons (v : Byte) (vs : List Byte) (s : State) : pushAll (v :: vs) s = pushAll vs (push v s) := rfl

/-- Pushes change the memory and SP alone. -/
theorem pushAll_eq_setMem_setSp (vs : List Byte) (s : State) :
    pushAll vs s = (s.setMem (pushAll vs s).mem).setSp (spBelow s.cfg vs.length s.sp) := by
  induction vs generalizing s with
  | nil => rfl
  | cons v vs ih =>
    rw [pushAll_cons, ih, push_cfg, push_sp, spBelow_spDown, push_eq_setMem_setSp]
    rfl

theorem content_pushAll_other {vs : List Byte} {s : State} {b : Addr}
    (h : ∀ k < vs.length, trunc s.cfg b ≠ trunc s.cfg (spBelow s.cfg k s.sp)) :
    content (pushAll vs s) b = content s b := by
  induction vs generalizing s with
  | nil => rfl
  | cons v vs ih =>
    rw [pushAll_cons, ih, content_push_other v (h 0 (Nat.zero_lt_succ _))]
    intro k hk
    rw [push_cfg, push_sp, spBelow_spDown]
    exact h (k + 1) (Nat.succ_lt_succ hk)

/-- Every slot holds the byte pushed there, as long as the pushes have not come round to it again. -/
theorem content_pushAll_slot {vs : List Byte} {s : State} (hc : s.cfg.wf) (hsp : SpInRange s.cfg s.sp)
    (hram : StackIsRam s) (hlen : vs.length ≤ 2 ^ s.cfg.spBits) {k : Nat} (hk : k < vs.length) :
    content (pushAll vs s) (spBelow s.cfg k s.sp) = vs[k] := by
  induction vs generalizing s k with
  | nil => cases hk
  | cons v vs ih =>
    rw [List.length_cons] at hlen hk
    rw [pushAll_cons]
    cases k with
    | zero =>
      rw [content_pushAll_other, spBelow, content_push (hram.kindAt hsp), if_pos rfl, List.getElem_cons_zero]
      intro j hj
      rw [push_cfg, push_sp, spBelow_spDown, (hsp.spBelow hc _).trunc_eq hc, (hsp.spBelow hc _).trunc_eq hc]
      exact spBelow_ne hc hsp (Nat.succ_pos j) (by omega)
    | succ k =>
      have hrest := ih (s := push v s) (k := k) (by rwa [push_cfg]) (by rw [push_cfg, push_sp]; exact hsp.spDown hc)
        (hram.congr (push_cfg v s)) (by rw [push_cfg]; omega) (by omega)
      rwa [push_cfg, push_sp, spBelow_spDown] at hrest

/-! ### Pulling some bytes from a stack in RAM -/

section
variable {s : State} (hc : s.cfg.wf) (hsp : SpInRange s.cfg s.sp) (hram : StackIsRam s)
include hc hsp hram

/-- A pull from RAM moves SP and reads; it changes nothing else. -/
theorem pull_stack : pull s = (content s (spUp s.cfg s.sp), s.setSp (spUp s.cfg s.sp)) :=
  pull_memory (hram.kindAt (hsp.spUp hc))

theorem afterPulls_stack (k : Nat) : afterPulls k s = s.setSp (spAbove s.cfg k s.sp) := by
  induction k with
  | zero => rfl
  | succ k ih => rw [afterPulls, ih, pull_stack (s := s.setSp (spAbove s.cfg k s.sp)) hc (hsp.spAbove hc k) hram]; rfl

theorem pull_afterPulls_stack (k : Nat) : (pull (afterPulls k s)).1 = content s (spAbove s.cfg (k + 1) s.sp) := by
  rw [afterPulls_stack hc hsp hram, pull_stack (s := s.setSp (spAbove s.cfg k s.sp)) hc (hsp.spAbove hc k) hram]
  rfl

theorem pull_stack_fst : (pull s).1 = content s (spAbove s.cfg 1 s.sp) := pull_afterPulls_stack hc hsp hram 0

end

end Sys2Proof.Machine
end

section
/-! The control instructions (R270 to R283): each one's row of the opcode map, the returns as pulls from the stack, and STOP and
WAIT by family. -/

namespace Sys2Proof.Machine

/-! ### The rows of the opcode map (R97) -/

/-- The control instructions that both families have: opcode, cycles on HMOS and on CMOS, and the effect
(`ControlRow.exec_eq`, `ControlRow.oneByte`). -/
inductive ControlRow : Instr → Byte → Nat → Nat → (State → State) → Prop
  | rti : ControlRow .rti 0x80 9 9 returnFromException
  | rts : ControlRow .rts 0x81 6 6 pullPc
  | swi : ControlRow .swi 0x83 11 10 fun s => takeException (vecSwi s.cfg) s
  | tax : ControlRow .tax 0x97 2 2 fun s => s.setX s.a
  | clc : ControlRow .clc 0x98 2 2 fun s => s.setCc { s.cc with c := false }
  | sec : ControlRow .sec 0x99 2 2 fun s => s.setCc { s.cc with c := true }
  | cli : ControlRow .cli 0x9A 2 2 fun s => s.setCc { s.cc with i := false }
  | sei : ControlRow .sei 0x9B 2 2 fun s => s.setCc { s.cc with i := true }
  | rsp : ControlRow .rsp 0x9C 2 2 fun s => s.setSp 0x7F
  | nop : ControlRow .nop 0x9D 2 2 fun s => s
  | txa : ControlRow .txa 0x9F 2 2 fun s => s.setA s.x

section
variable {i : Instr} {op : Byte} {h c : Nat} {f : State → State}

theorem ControlRow.exec_eq (row : ControlRow i op h c f) (s : State) : exec i s = .next (f s) := by
  cases row <;> rfl

theorem ControlRow.oneByte (row : ControlRow i op h c f) : OneByte i op h c := by
  cases row <;> exact ⟨rfl, rfl, rfl⟩

/-- The one state a control instruction can leave. -/
theorem ControlRow.next_eq (row : ControlRow i op h c f) {s t : State} (ht : exec i s = .next t) : t = f s := by
  rw [row.exec_eq] at ht
  cases ht
  rfl

end

/-- Settles O29: the rows of the four instructions. -/
theorem carryAndTransferInstructions : Obligations.CarryAndTransferInstructions :=
  ⟨ControlRow.clc.exec_eq, ControlRow.clc.oneByte, ControlRow.sec.exec_eq, ControlRow.sec.oneByte,
    ControlRow.tax.exec_eq, ControlRow.tax.oneByte, ControlRow.txa.exec_eq, ControlRow.txa.oneByte⟩

/-- Settles O32: the rows of the two instructions. -/
theorem nopAndResetStackPointer : Obligations.NopAndResetStackPointer :=
  ⟨ControlRow.nop.exec_eq, ControlRow.nop.oneByte, ControlRow.rsp.exec_eq, ControlRow.rsp.oneByte⟩

/-! ### The interrupt mask (R272, R278) -/

/-- Settles O30: I set leaves the boundary no interrupt; reset comes before the mask, and SWI does not read it. -/
theorem setMaskInstruction : Obligations.SetMaskInstruction :=
  ⟨ControlRow.sei.exec_eq, ControlRow.sei.oneByte, fun _ reset src hi => chooseEvent_ne_interrupt hi reset src,
    fun t _ => chooseEvent_reset t, fun t _ => ⟨_, ControlRow.swi.exec_eq t⟩⟩

/-- Settles O31: I is clear after it and the requests are as before, so the boundary after it takes one. -/
theorem clearMaskInstruction : Obligations.ClearMaskInstruction := by
  refine ⟨ControlRow.cli.exec_eq, ControlRow.cli.oneByte, fun s t h hext => ?ext, fun s t h hext htimer => ?timer⟩
  case ext =>
    obtain rfl := ControlRow.cli.next_eq h
    exact chooseEvent_ext rfl hext
  case timer =>
    obtain rfl := ControlRow.cli.next_eq h
    exact chooseEvent_timer rfl hext htimer

/-! ### STOP and WAIT, by family (R279, R283, R284) -/

section
variable {s : State}

theorem exec_stop_cmos (h : s.cfg.family = .cmos) : exec .stop s =
    .next (((s.setCc { s.cc with i := false }).setTimer (timerStopEffects s.timer)).setRunState .stopped) := by
  simp only [exec, execStop, h]

theorem exec_stop_hmos (h : s.cfg.family = .hmos) : exec .stop s = .fault (.undefinedOpcode 0x8E) := by
  simp only [exec, execStop, h]

theorem exec_wait_cmos (h : s.cfg.family = .cmos) :
    exec .wait s = .next ((s.setCc { s.cc with i := false }).setRunState .waiting) := by
  simp only [exec, execWait, h]

theorem exec_wait_hmos (h : s.cfg.family = .hmos) : exec .wait s = .fault (.undefinedOpcode 0x8F) := by
  simp only [exec, execWait, h]

end

/-- Settles O39: `timerStopEffects` clears the prescaler, the enable and the flag, and keeps the counter. -/
theorem stopInstruction : Obligations.StopInstruction :=
  ⟨fun _ h => ⟨_, exec_stop_cmos h, rfl, rfl, rfl, rfl, rfl, rfl⟩, fun _ h => exec_stop_hmos h, rfl, rfl⟩

/-- Settles O40: the family decides between the effect and the fault. -/
theorem waitInstruction : Obligations.WaitInstruction :=
  ⟨fun _ h => exec_wait_cmos h, fun _ h => exec_wait_hmos h, rfl, rfl⟩

/-! ### RTS (R276) -/

/-- Pulling the PC, with the two pulled bytes and the state after them named. -/
theorem pullPc_eq (s : State) : pullPc s =
    (afterPulls 2 s).setPc (trunc s.cfg (wordOf (pull s).1 (pull (afterPulls 1 s)).1)) := by
  simp [pullPc, afterPulls]

/-- Settles O33: the instruction is two pulls, which in RAM move SP and read the two bytes above it. -/
theorem returnFromSubroutineInstruction : Obligations.ReturnFromSubroutineInstruction := by
  have pulls (s : State) := (ControlRow.rts.exec_eq s).trans (congrArg Host.Outcome.next (pullPc_eq s))
  refine ⟨pulls, fun s h hram => ?ram, ControlRow.rts.oneByte⟩
  case ram =>
    rw [pulls, pull_stack_fst h.config h.sp hram, pull_afterPulls_stack h.config h.sp hram,
      afterPulls_stack h.config h.sp hram]

/-! ### RTI (R275) -/

/-- The state with the flags, A and X of a frame. -/
def State.withCcAX (s : State) (cc : CC) (a x : Byte) : State := ((s.setCc cc).setA a).setX x

section
variable (s : State) (cc : CC) (a x : Byte)

/-- A read sees neither the flags nor A nor X. -/
theorem afterRead_withCcAX (addr : Addr) : afterRead (s.withCcAX cc a x) addr = (afterRead s addr).withCcAX cc a x := by
  have hk : kindAt (s.withCcAX cc a x) addr = kindAt s addr := rfl
  unfold afterRead
  rw [hk]
  cases kindAt s addr <;> rfl

/-- A pull sees neither the flags nor A nor X. -/
theorem pull_withCcAX : pull (s.withCcAX cc a x) = ((pull s).1, (pull s).2.withCcAX cc a x) :=
  Prod.ext rfl (afterRead_withCcAX (s.setSp (spUp s.cfg s.sp)) cc a x (spUp s.cfg s.sp))

theorem pullPc_withCcAX : pullPc (s.withCcAX cc a x) = (pullPc s).withCcAX cc a x := by
  simp only [pullPc, pull_withCcAX]
  rfl

end

/-- The five pulls of a return do not depend on the registers loaded between them. -/
theorem returnFromException_eq_withCcAX (s : State) : returnFromException s =
    (pullPc (afterPulls 3 s)).withCcAX (ccOfByte (pull s).1) (pull (afterPulls 1 s)).1 (pull (afterPulls 2 s)).1 := by
  have setCc_eq (t : State) (cc : CC) : t.setCc cc = t.withCcAX cc t.a t.x := rfl
  have setA_eq (t : State) (cc : CC) (a x v : Byte) : (t.withCcAX cc a x).setA v = t.withCcAX cc v x := rfl
  have setX_eq (t : State) (cc : CC) (a x v : Byte) : (t.withCcAX cc a x).setX v = t.withCcAX cc a v := rfl
  simp only [returnFromException, afterPulls, setCc_eq, pull_withCcAX, setA_eq, setX_eq, pullPc_withCcAX]

theorem returnFromException_eq (s : State) : returnFromException s =
    ((((afterPulls 5 s).setCc (ccOfByte (pull s).1)).setA (pull (afterPulls 1 s)).1).setX
      (pull (afterPulls 2 s)).1).setPc
      (trunc s.cfg (wordOf (pull (afterPulls 3 s)).1 (pull (afterPulls 4 s)).1)) := by
  have hcfg : (afterPulls 3 s).cfg = s.cfg := by simp [afterPulls]
  rw [returnFromException_eq_withCcAX, pullPc_eq, hcfg]
  rfl

/-- From a stack in RAM a return loads the five bytes above SP and changes nothing else. -/
theorem returnFromException_stack {s : State} (hc : s.cfg.wf) (hsp : SpInRange s.cfg s.sp) (hram : StackIsRam s) :
    returnFromException s =
      ((((s.setCc (ccOfByte (content s (spAbove s.cfg 1 s.sp)))).setA (content s (spAbove s.cfg 2 s.sp))).setX
        (content s (spAbove s.cfg 3 s.sp))).setSp (spAbove s.cfg 5 s.sp)).setPc
        (trunc s.cfg (wordOf (content s (spAbove s.cfg 4 s.sp)) (content s (spAbove s.cfg 5 s.sp)))) := by
  simp only [returnFromException_eq, pull_stack_fst hc hsp hram, pull_afterPulls_stack hc hsp hram]
  rw [afterPulls_stack hc hsp hram]
  rfl

theorem returnFromException_cc (s : State) : (returnFromException s).cc = ccOfByte (pull s).1 := by
  rw [returnFromException_eq]
  rfl

/-- Settles O34: the flags are those of the first byte and the requests are as before, so with I clear the next boundary takes
one. -/
theorem returnFromInterruptInstruction : Obligations.ReturnFromInterruptInstruction := by
  refine ⟨fun s => ?pulls, fun s t h => ?next, fun s h hram => ?ram, ControlRow.rti.oneByte⟩
  case pulls => rw [ControlRow.rti.exec_eq, returnFromException_eq]
  case ram => rw [ControlRow.rti.exec_eq, returnFromException_stack h.config h.sp hram]
  case next =>
    obtain rfl := ControlRow.rti.next_eq h
    have hi : (returnFromException s).cc.i = (pull s).1.getLsbD 3 := by rw [returnFromException_cc]; rfl
    have htimer : pendTimer (returnFromException s) = pendTimer s := by simp only [pendTimer, returnFromException_timer]
    have hext := returnFromException_pendExt s
    exact ⟨hi, fun hclear hpend => chooseEvent_ext (hi.trans hclear) (hext.trans hpend),
      fun hclear hpend hreq => chooseEvent_timer (hi.trans hclear) (hext.trans hpend) (htimer.trans hreq)⟩

end Sys2Proof.Machine
end

section
/-! SWI (R280, R302): the vector, the frame it leaves in a stack in RAM, and the return that takes the frame back. -/

namespace Sys2Proof.Machine

/-! ### The software interrupt vector (R6) -/

theorem addrMask_toNat {c : Config} (h : c.addrBits ≤ 16) : (addrMask c).toNat = 2 ^ c.addrBits - 1 := by
  have hmax : 2 ^ c.addrBits ≤ 2 ^ 16 := Nat.pow_le_pow_right (by decide) h
  rw [addrMask, BitVec.toNat_ofNat, Nat.mod_eq_of_lt]
  have := Nat.two_pow_pos c.addrBits
  omega

theorem vecSwi_toNat {c : Config} (hc : c.wf) : (vecSwi c).toNat = 2 ^ c.addrBits - 1 - 3 := by
  have hmin : 2 ^ 11 ≤ 2 ^ c.addrBits := Nat.pow_le_pow_right (by decide) hc.1
  have htop : (nTop c).toNat = 2 ^ c.addrBits - 1 := addrMask_toNat (addrBits_le hc)
  have hle : (3 : Addr) ≤ nTop c := by
    rw [BitVec.le_def, htop]
    show 3 ≤ _
    omega
  rw [vecSwi, BitVec.toNat_sub_of_le hle, htop]
  rfl

/-! ### The frame of an exception (R36, R280, R310) -/

/-- The bytes of the frame, in the order they are pushed. -/
def frameBytes (s : State) : List Byte := [pclByte s.pc, pchByte s.cfg s.pc, s.x, s.a, ccByte s.cc]

theorem framePushed_eq_pushAll (s : State) : framePushed s = pushAll (frameBytes s) s := rfl

/-- No push changes what the pushes after it stack. -/
theorem pushFrame_eq (s : State) : pushFrame s = framePushed s := by
  simp [pushFrame, pushPc, framePushed]

/-- Taking an exception: the frame pushed, I set, and two reads for the PC. -/
theorem takeException_eq (vec : Addr) {s u : State} (hu : (framePushed s).setCc { s.cc with i := true } = u) :
    takeException vec s = (afterRead (afterRead u vec) (vec + 1)).setPc
      (trunc s.cfg (wordOf (readByte u vec) (readByte (afterRead u vec) (vec + 1)))) := by
  subst hu
  simp only [takeException, loadVector, pushFrame_eq, memRead_fst, memRead_snd, State.setCc_cfg]
  rw [← pushFrame_eq, pushFrame_cc, pushFrame_cfg]

/-- A vector in memory is read without changing anything. -/
theorem takeException_memory {vec : Addr} {s : State} (hvec : VectorIsMemory s vec) :
    takeException vec s = ((framePushed s).setCc { s.cc with i := true }).setPc
      (trunc s.cfg (wordOf (content (framePushed s) vec) (content (framePushed s) (vec + 1)))) := by
  have hkind (b : Addr) : kindAt ((framePushed s).setCc { s.cc with i := true }) b = kindAt s b :=
    kindAt_congr (by rw [State.setCc_cfg, ← pushFrame_eq, pushFrame_cfg]) b
  obtain ⟨hhi, hlo⟩ := hvec
  rw [← hkind] at hhi hlo
  rw [takeException_eq vec rfl, afterRead_memory hhi, afterRead_memory hlo, readByte_memory hhi, readByte_memory hlo]
  rfl

theorem content_takeException (vec : Addr) (s : State) (b : Addr) :
    content (takeException vec s) b = content (framePushed s) b := by
  rw [← pushFrame_eq]
  exact content_congr (by simp [takeException]) (by simp) b

section
variable {s : State} (hc : s.cfg.wf) (hsp : SpInRange s.cfg s.sp) (hram : StackIsRam s)
include hc hsp hram

/-- With at least three counting bits the five slots hold the five bytes. -/
theorem content_takeException_slot (hbits : 3 ≤ s.cfg.spBits) (vec : Addr) {k : Nat} (hk : k < 5) :
    content (takeException vec s) (spBelow s.cfg k s.sp) = (frameBytes s)[k] := by
  have hP : 2 ^ 3 ≤ 2 ^ s.cfg.spBits := Nat.pow_le_pow_right (by decide) hbits
  rw [content_takeException, framePushed_eq_pushAll]
  exact content_pushAll_slot (vs := frameBytes s) hc hsp hram (show 5 ≤ 2 ^ s.cfg.spBits by omega) hk

theorem frameStacked_takeException (hbits : 3 ≤ s.cfg.spBits) {vec : Addr} (hvec : VectorIsMemory s vec) :
    FrameStacked s (takeException vec s) vec := by
  have slot (k : Nat) (hk : k < 5) := content_takeException_slot hc hsp hram hbits vec hk
  refine ⟨takeException_sp vec s, slot 0 (by decide), slot 1 (by decide), slot 2 (by decide), slot 3 (by decide),
    slot 4 (by decide), fun b hb => content_takeException_other vec (outside_stackSlots_iff.2 hb), ?_⟩
  rw [content_takeException, content_takeException, takeException_memory hvec]
  rfl

/-- A return that finds the frame in its slots restores the registers, whatever else has changed. -/
theorem returnFromException_of_frame {u : State} (hpc : s.pc.toNat < 2 ^ s.cfg.addrBits) (hcfg : u.cfg = s.cfg)
    (husp : u.sp = spBelow s.cfg 5 s.sp)
    (hslots : ∀ k (hk : k < 5), content u (spBelow s.cfg k s.sp) = (frameBytes s)[k]) :
    returnFromException u = withRegistersOf u s := by
  have above (j k : Nat) (hj : k + j = 5) : spAbove u.cfg j u.sp = spBelow s.cfg k s.sp := by
    rw [hcfg, husp, ← hj, spAbove_spBelow hc hsp]
  rw [returnFromException_stack (hcfg ▸ hc) (by rw [hcfg, husp]; exact hsp.spBelow hc 5) (hram.congr hcfg),
    above 1 4 rfl, above 2 3 rfl, above 3 2 rfl, above 4 1 rfl, above 5 0 rfl,
    hslots 4 (by decide), hslots 3 (by decide), hslots 2 (by decide), hslots 1 (by decide), hslots 0 (by decide), hcfg]
  show ((((u.setCc (ccOfByte (ccByte s.cc))).setA s.a).setX s.x).setSp s.sp).setPc
    (trunc s.cfg (wordOf (pchByte s.cfg s.pc) (pclByte s.pc))) = _
  rw [ccOfByte_ccByte, trunc_wordOf_stackedPc hc hpc]
  rfl

end

/-- An exception whose vector is in memory changes the memory, SP, I and the PC alone. -/
theorem takeException_eq_setMem {vec : Addr} {s : State} (hvec : VectorIsMemory s vec) :
    takeException vec s = (((s.setMem (takeException vec s).mem).setSp (takeException vec s).sp).setCc
      { s.cc with i := true }).setPc (takeException vec s).pc := by
  rw [takeException_memory hvec, framePushed_eq_pushAll, pushAll_eq_setMem_setSp]
  rfl

/-! ### The obligations -/

/-- Settles O35: SWI takes the exception of its own vector. -/
theorem softwareInterruptInstruction : Obligations.SoftwareInterruptInstruction := by
  refine ⟨fun s u hu => ?pushes, fun s h hbits hram hvec => ?ram, fun c hc => vecSwi_toNat hc, ControlRow.swi.oneByte⟩
  case pushes => rw [ControlRow.swi.exec_eq, takeException_eq _ hu]
  case ram =>
    exact ⟨_, ControlRow.swi.exec_eq s, frameStacked_takeException h.config h.sp hram hbits hvec,
      takeException_eq_setMem hvec⟩

/-- Settles O36: the return finds the frame of SWI in its slots. -/
theorem rtiUndoesSwi : Obligations.RtiUndoesSwi := by
  intro s t u h hbits hram ht hcfg hsp hslots
  obtain rfl := ControlRow.swi.next_eq ht
  refine ⟨by rw [takeException_cc], ?_⟩
  rw [ControlRow.rti.exec_eq, returnFromException_of_frame h.config h.sp hram h.pcInRange
    (hcfg.trans (takeException_cfg _ s)) (hsp.trans (takeException_sp _ s))
    fun k hk => (hslots k hk).trans (content_takeException_slot h.config h.sp hram hbits _ hk)]

end Sys2Proof.Machine
end


section
/-! Hardware interrupts (R303 to R312): what an entry adds to taking an exception, the return that undoes it, and the inputs that
make the requests. -/

namespace Sys2Proof.Machine

/-! ### Hardware interrupt entry (R311) -/

/-- The external entry takes the exception of its vector, drops its request and ends STOP and WAIT. -/
theorem interruptEntry_ext (s : State) :
    interruptEntry .ext s = ((takeException (sourceVector s.cfg .ext) s).setPendExt false).setRunState .running := rfl

/-- The timer entry keeps its request, which is the device's. -/
theorem interruptEntry_timer (s : State) :
    interruptEntry .timer s = (takeException (sourceVector s.cfg .timer) s).setRunState .running := rfl

section
variable (src : Source) (s : State)

theorem interruptEntry_pc : (interruptEntry src s).pc = (takeException (sourceVector s.cfg src) s).pc := by
  cases src <;> simp [interruptEntry]

theorem interruptEntry_mem : (interruptEntry src s).mem = (takeException (sourceVector s.cfg src) s).mem := by
  cases src <;> simp [interruptEntry]

theorem interruptEntry_cc : (interruptEntry src s).cc = { s.cc with i := true } := by
  cases src <;> simp [interruptEntry]

theorem content_interruptEntry (b : Addr) :
    content (interruptEntry src s) b = content (takeException (sourceVector s.cfg src) s) b :=
  content_congr (interruptEntry_mem src s) (by rw [interruptEntry_cfg, takeException_cfg]) b

end

/-- The frame is a matter of SP, the PC and what the locations hold. -/
theorem FrameStacked.congr {s t u : State} {vec : Addr} (h : FrameStacked s t vec) (hsp : u.sp = t.sp) (hpc : u.pc = t.pc)
    (hcontent : ∀ b, content u b = content t b) : FrameStacked s u vec := by
  unfold FrameStacked
  simp only [hsp, hpc, hcontent]
  exact h

theorem frameStacked_interruptEntry {src : Source} {s : State} (h : Inv s) (hram : StackIsRam s) (hbits : 3 ≤ s.cfg.spBits)
    (hvec : VectorIsMemory s (sourceVector s.cfg src)) :
    FrameStacked s (interruptEntry src s) (sourceVector s.cfg src) :=
  (frameStacked_takeException h.config h.sp hram hbits hvec).congr
    (by rw [interruptEntry_sp]; exact (takeException_sp _ s).symm)
    (interruptEntry_pc src s) (content_interruptEntry src s)

/-- Settles O42: an entry takes the exception of its source's vector; what it does besides is the latch and the run state. -/
theorem hardwareInterruptEntry : Obligations.HardwareInterruptEntry := by
  intro src s h hbits hram hvec
  refine ⟨_, rfl, frameStacked_interruptEntry h hram hbits hvec, ?_⟩
  have hexception := takeException_eq_setMem hvec
  cases src with
  | ext =>
    rw [interruptEntry_ext]
    generalize takeException (sourceVector s.cfg .ext) s = t at hexception ⊢
    exact congrArg (fun t : State => (t.setPendExt false).setRunState .running) hexception
  | timer =>
    rw [interruptEntry_timer]
    generalize takeException (sourceVector s.cfg .timer) s = t at hexception ⊢
    exact congrArg (fun t : State => t.setRunState .running) hexception

/-- Settles O37: the return finds the frame of the entry in its slots. -/
theorem rtiUndoesInterruptEntry : Obligations.RtiUndoesInterruptEntry := by
  rintro src s _ u h hbits hram rfl hcfg hsp hslots
  refine ⟨by rw [interruptEntry_cc], ?_⟩
  rw [ControlRow.rti.exec_eq, returnFromException_of_frame h.config h.sp hram h.pcInRange
    (hcfg.trans (interruptEntry_cfg src s)) (hsp.trans (interruptEntry_sp src s))]
  intro k hk
  rw [hslots k hk, content_interruptEntry, content_takeException_slot h.config h.sp hram hbits _ hk]

/-! ### The inputs of a boundary (R303, R304) -/

section
variable {s : State} {i : Input}

theorem sampleInputs_cons {rest : List Input} (h : s.inputs = i :: rest) :
    sampleInputs s =
      (((s.setPendExt (latchAfter s i)).setIntPin i.intPin).setTimer (timerAfter s i)).setInputs rest := by
  simp only [sampleInputs, h]

theorem latchAfter_eq_true_iff :
    latchAfter s i = true ↔ s.pendExt = true ∨ i.pulse = true ∨ (s.intPin = true ∧ i.intPin = false) := by
  simp [latchAfter, or_assoc]

theorem timerAfter_of_stopped (h : s.runState = .stopped) : timerAfter s i = s.timer := by
  simp only [timerAfter, h]

theorem timerAfter_of_none (h : i.timer = none) : timerAfter s i = s.timer := by
  cases hr : s.runState <;> simp only [timerAfter, h, hr]

theorem timerAfter_of_some {v : Timer} (hr : s.runState ≠ .stopped) (h : i.timer = some v) : timerAfter s i = v := by
  cases hs : s.runState with
  | stopped => exact absurd hs hr
  | running | waiting => simp only [timerAfter, h, hs]

end

/-- Settles O43: the boundary's first input goes into the latch, the pin and the timer, and into nothing else. -/
theorem inputsOfABoundary : Obligations.InputsOfABoundary := by
  intro s i rest hin
  refine ⟨_, sampleInputs_cons hin, rfl, latchAfter_eq_true_iff, fun hkeep => ?kept, fun _ => timerAfter_of_some⟩
  case kept =>
    rcases hkeep with hstopped | hnone
    · exact timerAfter_of_stopped hstopped
    · exact timerAfter_of_none hnone

end Sys2Proof.Machine
end

section
/-! What can stop a step (R99, R301): a defined opcode is fetched with all the operand bytes its shape asks for, so it decodes to
an instruction the member has, which completes. -/

namespace Sys2Proof.Machine

/-! ### The fetch of a defined opcode -/

theorem fetchBytes_length (count : Nat) (s : State) : (fetchBytes count s).1.length = count := by
  induction count generalizing s with
  | zero => rfl
  | succ count ih => rw [fetchBytes, List.length_cons, ih]

/-- The operand bytes of an instruction are as many as its opcode announces (R94). -/
theorem operands_length_of_encode {i : Instr} {op : Byte} {operands : List Byte} (h : encode i = op :: operands) :
    operands.length = instrLength op - 1 := by
  obtain ⟨_, _, hcons, hlen⟩ := encode_eq_cons i
  obtain ⟨rfl, rfl⟩ := List.cons.inj (h.symm.trans hcons)
  exact hlen.symm

/-- A shape that agrees with the encoder reads as many bytes as its opcode announces. -/
theorem exists_read_eq_ok {fam : Family} {op : Byte} {sh : Shape} (hsh : ShapeEncodes fam op sh) {bytes : List Byte}
    (hlen : bytes.length = instrLength op - 1) : ∃ i, sh.read bytes = .ok i [] := by
  cases sh with
  | plain i =>
    rw [← operands_length_of_encode hsh.2] at hlen
    obtain rfl := List.length_eq_zero_iff.1 hlen
    exact ⟨_, rfl⟩
  | one f =>
    rw [← operands_length_of_encode (hsh 0).2] at hlen
    obtain ⟨b, rfl⟩ := List.length_eq_one_iff.1 hlen
    exact ⟨_, rfl⟩
  | two f =>
    rw [← operands_length_of_encode (hsh 0 0).2] at hlen
    obtain ⟨b, c, rfl⟩ := List.length_eq_two.1 hlen
    exact ⟨_, rfl⟩
  | word f =>
    rw [← operands_length_of_encode (hsh 0).2] at hlen
    obtain ⟨hi, lo, rfl⟩ := List.length_eq_two.1 hlen
    exact ⟨_, rfl⟩

/-- The fetch rejects no opcode byte but the listed ones (R99). -/
theorem fetchInstr_defined {s : State} (h : readByte s s.pc ∉ undefinedOpcodes s.cfg.family) :
    ∃ i, (fetchInstr s).1 = .ok i [] ∧ i.availableIn s.cfg.family = true := by
  rw [mem_undefinedOpcodes_iff, Option.isNone_iff_eq_none] at h
  obtain ⟨sh, hsh⟩ := Option.ne_none_iff_exists'.1 h
  have hencodes := opcodeShape_encodes hsh
  obtain ⟨i, hread⟩ := exists_read_eq_ok hencodes (fetchBytes_length _ (fetch8 s).2)
  exact ⟨i, (decode_cons hsh _).trans hread, (encode_of_read hencodes hread).1.1⟩

/-! ### The step (R301) -/

/-- An instruction completes on a member that has it, from every state. -/
theorem exec_completes (i : Instr) (s : State) (h : i.availableIn s.cfg.family = true) : ∃ t, exec i s = .next t := by
  obtain ⟨f, -, hf⟩ := exec_eq_meaning i
  exact ⟨f s, hf s h⟩

theorem runInstruction_defined {s : State} (h : readByte s s.pc ∉ undefinedOpcodes s.cfg.family) :
    ∃ t, runInstruction s = .next t := by
  obtain ⟨i, hdecoded, hi⟩ := fetchInstr_defined h
  obtain ⟨t, ht⟩ := exec_completes i (fetchInstr s).2 (by rwa [fetchInstr_cfg])
  have hfetch : fetchInstr s = (.ok i [], (fetchInstr s).2) := Prod.ext hdecoded rfl
  refine ⟨addCycles (cyclesOf s.cfg.family i) t, ?_⟩
  rw [runInstruction, hfetch]
  exact congrArg (charge _) ht

theorem runInstruction_undefined {s : State} (h : readByte s s.pc ∈ undefinedOpcodes s.cfg.family) :
    runInstruction s = .fault (.undefinedOpcode (readByte s s.pc)) := by
  rw [mem_undefinedOpcodes_iff] at h
  exact runInstruction_of_rejected ((decode_eq_undefinedOpcode_iff _ _ _).2 h)

/-- A step answers a state, or it fetched a byte with no instruction and names it. -/
theorem step_next_or_undefinedOpcode (s : State) : (∃ t, step s = .next t) ∨
    (readByte (sampleInputs s) (sampleInputs s).pc ∈ undefinedOpcodes s.cfg.family ∧
      step s = .fault (.undefinedOpcode (readByte (sampleInputs s) (sampleInputs s).pc))) := by
  cases hev : chooseEvent (resetAsserted s) (sampleInputs s) with
  | reset => exact .inl ⟨resetStep (sampleInputs s), by simp only [step, hev]⟩
  | interrupt src => exact .inl ⟨_, step_of_interrupt hev⟩
  | idle => exact .inl ⟨_, step_of_idle hev⟩
  | instruction =>
    rw [step_of_instruction hev, ← sampleInputs_cfg s]
    by_cases hop : readByte (sampleInputs s) (sampleInputs s).pc ∈ undefinedOpcodes (sampleInputs s).cfg.family
    · exact .inr ⟨hop, runInstruction_undefined hop⟩
    · exact .inl (runInstruction_defined hop)

/-- Settles O49: every instruction a member has completes, so a step is stopped by its opcode byte alone. -/
theorem noInstructionFaults : Obligations.NoInstructionFaults := by
  refine ⟨exec_completes, fun s f hfault => ?fault, fun s r hrefused => ?refused⟩
  case fault =>
    obtain ⟨t, hnext⟩ | ⟨hop, hstep⟩ := step_next_or_undefinedOpcode s
    · cases hnext.symm.trans hfault
    · cases hstep.symm.trans hfault
      exact ⟨_, rfl, rfl, hop⟩
  case refused =>
    obtain ⟨t, hnext⟩ | ⟨-, hstep⟩ := step_next_or_undefinedOpcode s
    · cases hnext.symm.trans hrefused
    · cases hstep.symm.trans hrefused

end Sys2Proof.Machine
end

section
/-! Reset (R341): a vector in memory is read without a trace, so what a reset leaves is the registers it sets and the PC. -/

namespace Sys2Proof.Machine

theorem VectorIsMemory.congr {s t : State} {vec : Addr} (h : VectorIsMemory s vec) (hcfg : t.cfg = s.cfg) :
    VectorIsMemory t vec := by
  simpa only [VectorIsMemory, kindAt_congr hcfg] using h

/-- Loading from a vector in memory draws no value: it sets the PC and nothing else (R307). -/
theorem loadVector_memory {vec : Addr} {s : State} (hvec : VectorIsMemory s vec) :
    loadVector vec s = s.setPc (trunc s.cfg (wordOf (content s vec) (content s (vec + 1)))) := by
  obtain ⟨hhi, hlo⟩ := hvec
  simp only [loadVector, memRead_fst, memRead_snd, afterRead_memory hhi, afterRead_memory hlo, readByte_memory hhi,
    readByte_memory hlo]

/-- What a reset sets before it reads its vector (R341, decision D7). -/
def resetRegisters (s : State) : State :=
  (((((s.setSp stackTop).setCc { s.cc with i := true }).setPendExt false).setTimer (timerAfterReset s.draws)).setDraws
    (s.draws + 1)).setRunState .running

theorem takeReset_eq_loadVector (s : State) : takeReset s = loadVector s.cfg.vecReset (resetRegisters s) := rfl

@[simp] theorem resetRegisters_cfg (s : State) : (resetRegisters s).cfg = s.cfg := rfl

@[simp] theorem content_resetRegisters (s : State) (b : Addr) : content (resetRegisters s) b = content s b := rfl

/-- A reset whose vector is in memory: the registers it sets, then the PC. -/
theorem takeReset_memory {s : State} (hvec : VectorIsMemory s s.cfg.vecReset) :
    takeReset s = (resetRegisters s).setPc
      (trunc s.cfg (wordOf (content s s.cfg.vecReset) (content s (s.cfg.vecReset + 1)))) := by
  rw [takeReset_eq_loadVector, loadVector_memory (hvec.congr (resetRegisters_cfg s)), resetRegisters_cfg,
    content_resetRegisters, content_resetRegisters]

theorem takeReset_timer (s : State) : (takeReset s).timer = timerAfterReset s.draws := by simp [takeReset]

theorem pendTimer_takeReset (s : State) : pendTimer (takeReset s) = false := by
  rw [pendTimer, takeReset_timer]
  rfl

/-- Settles O44: with the vector in memory a reset is the registers it sets and the PC, and the timer it leaves makes no
request. -/
theorem resetTaken : Obligations.ResetTaken := by
  intro s hvec
  refine ⟨takeReset s, rfl, ?_, pendTimer_takeReset s⟩
  rw [takeReset_memory hvec]
  rfl

end Sys2Proof.Machine
end
